-- ==== Sys2Proof/Word.lean ====
section
/-! DEFINITION. The word types of the engine (00_scope.md R9) and the sparse form in which its byte buffers and register
arrays are held. -/

namespace Sys2Proof

/-- `u8` (R9): a byte of a frame, a slave address, a function code, a command code. -/
abbrev Byte := BitVec 8

/-- `u16` (R9): a register number, a register value, a quantity, a CRC, a length. -/
abbrev HalfWord := BitVec 16

/-- `u32` (R9): a host register (R22), a count of time units (R45). -/
abbrev Word := BitVec 32

/-- The index of a host register, 0x000 to 0x3FF (R22). -/
abbrev RegIndex := BitVec 10

/-- A buffer or register array as a list of (index, value) pairs: indices strictly rising, no entry equal to what an unlisted
index reads as (`Machine.Memory.wf`). `Memory 8` is a list of `Host.Cell`. -/
abbrev Memory (w : Nat) := List (Nat × BitVec w)

end Sys2Proof
end

