-- ==== Sys2Proof/Config.lean ====
section
/-! DEFINITION. What one implementation of the engine fixes: the parameters of 00_scope.md R6, each at the value R6 gives this
hardware (log 15). -/

namespace Sys2Proof.Config

/-- SLAVE_MIN (R6): the lowest slave address accepted. -/
def slaveMin : Nat := 1

/-- SLAVE_MAX (R6): the highest slave address accepted. -/
def slaveMax : Nat := 247

/-- MAX_READ_QTY (R6, decision D7): the largest quantity of a 0x03 request. -/
def maxReadQty : Nat := 125

/-- MAX_WRITE_QTY (R6, decision D7): the largest quantity of a 0x10 request. -/
def maxWriteQty : Nat := 123

/-- TXBUF_SIZE (R6): 9 + 2 × MAX_WRITE_QTY. -/
def txbufSize : Nat := 9 + 2 * maxWriteQty

/-- RXBUF_SIZE (R6): 5 + 2 × MAX_READ_QTY. -/
def rxbufSize : Nat := 5 + 2 * maxReadQty

/-- SETTLE_DEFAULT (R6): the reset value of CFG_SETTLE, in time units. -/
def settleDefault : Word := 100#32

/-- TIMEOUT_DEFAULT (R6): the reset value of CFG_TIMEOUT, in time units. -/
def timeoutDefault : Word := 1000#32

/-- CRC_POLY (R6): the reflected CRC polynomial. -/
def crcPoly : HalfWord := 0xA001#16

/-- CRC_INIT (R6): the CRC accumulator's start value. -/
def crcInit : HalfWord := 0xFFFF#16

end Sys2Proof.Config
end

