-- ==== Sys2Proof/Machine/Fields.lean ====
section
/-! DEFINITION. The field helpers of the notation (00_scope.md R8, R10; byte order 20_memory.md R56, R57) and the ranges of the
request fields (41_encoder.md R111 to R113). -/

namespace Sys2Proof.Machine

/-- `hi8(v) = v[15:8]` (R10). -/
def hi8 (v : HalfWord) : Byte := v.extractLsb' 8 8

/-- `lo8(v) = v[7:0]` (R10). -/
def lo8 (v : HalfWord) : Byte := v.extractLsb' 0 8

/-- `be16(h, l) = (h << 8) | l` (R10). -/
def be16 (h l : Byte) : HalfWord := h ++ l

/-- `le16(l, h) = l | (h << 8)` (R10). -/
def le16 (l h : Byte) : HalfWord := h ++ l

/-- Bits [7:0] of a host register's value (R23, R24, R28). -/
def low8 (v : Word) : Byte := v.setWidth 8

/-- Bits [15:0] of a host register's value (R25 to R27, R40). -/
def low16 (v : Word) : HalfWord := v.setWidth 16

/-- Values on the wire, high byte first (R56, R77, R78). -/
def bigEndian : List HalfWord → List Byte
  | [] => []
  | v :: vs => hi8 v :: lo8 v :: bigEndian vs

/-- Bytes read as big-endian values (R83); `none` for an odd number of bytes. -/
def fromBigEndian : List Byte → Option (List HalfWord)
  | [] => some []
  | [_] => none
  | h :: l :: rest => (fromBigEndian rest).map (be16 h l :: ·)

/-- Byte `i` of a frame, `f[i]` (R8). The rules read bytes a frame has; a byte past its end reads 0 here (log 14). -/
def byteAt (f : List Byte) (i : Nat) : Byte := f.getD i 0#8

/-- The six assigned command codes (R71). -/
def assignedCodes : List Byte := [0x03#8, 0x06#8, 0x10#8, 0x20#8, 0x21#8, 0x2F#8]

/-- A slave address a request may carry: 1 to 247 (R86, R111). -/
def slaveOk (slave : Byte) : Bool :=
  decide (Config.slaveMin ≤ slave.toNat) && decide (slave.toNat ≤ Config.slaveMax)

/-- A quantity a 0x03 request may carry: 1 to MAX_READ_QTY (R112). -/
def readQtyOk (q : Nat) : Bool := decide (1 ≤ q) && decide (q ≤ Config.maxReadQty)

/-- A quantity a 0x10 request may carry: 1 to MAX_WRITE_QTY (R113). -/
def writeQtyOk (q : Nat) : Bool := decide (1 ≤ q) && decide (q ≤ Config.maxWriteQty)

end Sys2Proof.Machine
end

