-- ==== Sys2Proof/Machine/Crc.lean ====
section
/-! DEFINITION. The CRC-16/Modbus function (40_crc.md R100 to R104). -/

namespace Sys2Proof.Machine

/-- Bit step (R100). -/
def crcBit (a : HalfWord) : HalfWord :=
  if a.getLsbD 0 then (a >>> 1) ^^^ Config.crcPoly else a >>> 1

/-- `n` bit steps. -/
def crcBits : Nat → HalfWord → HalfWord
  | 0, a => a
  | n + 1, a => crcBits n (crcBit a)

/-- Byte update (R101): the byte goes into bits [7:0], then eight bit steps. -/
def crcByte (a : HalfWord) (b : Byte) : HalfWord := crcBits 8 (a ^^^ b.setWidth 16)

/-- A sequence of bytes fed to an accumulator (R102, R106). -/
def crcFold (a : HalfWord) (s : List Byte) : HalfWord := s.foldl crcByte a

/-- Sequence function (R102): initial value 0xFFFF, no final XOR. -/
def crc16 (s : List Byte) : HalfWord := crcFold Config.crcInit s

/-- Append (R103): the CRC of every byte before it, low byte first. -/
def withCrc (m : List Byte) : List Byte := m ++ [lo8 (crc16 m), hi8 (crc16 m)]

/-- Check (R104): `crc16(f[0 .. n-3]) = le16(f[n-2], f[n-1])`. -/
def crcOk (f : List Byte) : Bool :=
  crc16 (f.take (f.length - 2)) == le16 (byteAt f (f.length - 2)) (byteAt f (f.length - 1))

end Sys2Proof.Machine
end

