-- ==== Sys2Proof/Machine/Frames.lean ====
section
/-! DEFINITION. The byte layouts of the request and response frames (30_encoding.md R74 to R81). -/

namespace Sys2Proof.Machine

/-- The 0x03 request (R75), length 8. -/
def readRequestFrame (slave : Byte) (start qty : HalfWord) : List Byte :=
  withCrc [slave, 0x03#8, hi8 start, lo8 start, hi8 qty, lo8 qty]

/-- The 0x06 request (R76) and its reply (R79), length 8. -/
def writeSingleFrame (slave : Byte) (reg value : HalfWord) : List Byte :=
  withCrc [slave, 0x06#8, hi8 reg, lo8 reg, hi8 value, lo8 value]

/-- The 0x10 request (R77), length 9 + 2Q, with Q the number of values and byte count 2Q. -/
def writeMultipleFrame (slave : Byte) (start : HalfWord) (values : List HalfWord) : List Byte :=
  let q := BitVec.ofNat 16 values.length
  withCrc ([slave, 0x10#8, hi8 start, lo8 start, hi8 q, lo8 q, BitVec.ofNat 8 (2 * values.length)] ++ bigEndian values)

/-- The normal reply to 0x03 (R78), length 5 + 2Q. -/
def readReplyFrame (slave byteCount : Byte) (values : List HalfWord) : List Byte :=
  withCrc ([slave, 0x03#8, byteCount] ++ bigEndian values)

/-- The reply to 0x10 (R80), length 8. -/
def writeMultipleReplyFrame (slave : Byte) (start qty : HalfWord) : List Byte :=
  withCrc [slave, 0x10#8, hi8 start, lo8 start, hi8 qty, lo8 qty]

/-- An exception reply (R81): 5 bytes when `rest` is empty. -/
def exceptionFrame (slave fc code : Byte) (rest : List Byte) : List Byte :=
  withCrc ([slave, fc, code] ++ rest)

end Sys2Proof.Machine
end

