-- ==== Sys2Proof/Syntax.lean ====
section
/-! DEFINITION. The instructions: one constructor for each row of spec/opcode_table.json. The rows have three formats
(30_encoding.md R90): host commands (CTRL), request frames (RTU_REQ) and response frames (RTU_RSP). A host command takes its
operands from the parameter registers (R70, R73) and so has no operand here; a frame carries its fields. -/

namespace Sys2Proof

/-- The three formats of the opcode table (R90). The same byte means one thing as a command code and others as a frame's
function code, so a decoder is told the format. -/
inductive Format where
  /-- CTRL: one 32-bit write to CTRL, CMD in bits [7:0] (R70). -/
  | ctrl
  /-- RTU_REQ: a request frame, function code in byte 1 (R75 to R77). -/
  | request
  /-- RTU_RSP: a response frame, function code in byte 1 (R78 to R81). -/
  | response
deriving DecidableEq, Repr

/-- The engine's instructions, one constructor for each row of the opcode table. -/
inductive Instr where
  /-- READ_REGISTERS (R174): CTRL[7:0] = 0x03. -/
  | readRegisters
  /-- READ_REGISTER (R175): the pseudo-command P_QTY ← 1, then CTRL[7:0] = 0x03. -/
  | readRegister
  /-- WRITE_REGISTER (R176): CTRL[7:0] = 0x06. -/
  | writeRegister
  /-- WRITE_REGISTERS (R177): CTRL[7:0] = 0x10. -/
  | writeRegisters
  /-- CRC_INIT (R105): CTRL[7:0] = 0x20. -/
  | crcInit
  /-- CRC_BYTE (R106): CTRL[7:0] = 0x21. -/
  | crcByte
  /-- CLEAR (R178): CTRL[7:0] = 0x2F. -/
  | clear
  /-- RESERVED_CMD (R72, R179): every other command code. -/
  | reservedCmd (code : Byte)
  /-- RTU_REQ_READ_HOLDING (R75, R114): the 0x03 request. -/
  | rtuReqReadHolding (slave : Byte) (start qty : HalfWord)
  /-- RTU_REQ_WRITE_SINGLE (R76, R115): the 0x06 request. -/
  | rtuReqWriteSingle (slave : Byte) (reg value : HalfWord)
  /-- RTU_REQ_WRITE_MULTIPLE (R77, R116): the 0x10 request; its quantity is the number of values. -/
  | rtuReqWriteMultiple (slave : Byte) (start : HalfWord) (values : List HalfWord)
  /-- RTU_RSP_READ_HOLDING (R78): the normal reply to 0x03; `byteCount` is byte 2, which nothing checks (R138). -/
  | rtuRspReadHolding (slave byteCount : Byte) (values : List HalfWord)
  /-- RTU_RSP_WRITE_SINGLE (R79): the reply to 0x06. -/
  | rtuRspWriteSingle (slave : Byte) (reg value : HalfWord)
  /-- RTU_RSP_WRITE_MULTIPLE (R80): the reply to 0x10. -/
  | rtuRspWriteMultiple (slave : Byte) (start qty : HalfWord)
  /-- RTU_RSP_EXCEPTION (R81): byte 1 has bit 7 set, byte 2 is the exception code; `rest` is what a slave puts between the
  code and the CRC (none in the 5-byte reply of R81, padding in the replies R134 can see). -/
  | rtuRspException (slave fc code : Byte) (rest : List Byte)
deriving DecidableEq, Repr

end Sys2Proof
end

