-- ==== Sys2Proof/WellFormed.lean ====
section
/-! DEFINITION. Which instructions are well formed: the ranges 30_encoding.md and 41_encoder.md give their fields. -/

namespace Sys2Proof

open Machine in
/-- The instruction's fields are ones its encoding admits. A command has no field; a reserved code is not an assigned one (R72);
a request meets R111 to R113; a read reply answers a quantity a request can have (R78); an exception reply has bit 7 of its
function code set (R81) and fits RXBUF (R44). -/
def wellFormed : Instr → Bool
  | .readRegisters => true
  | .readRegister => true
  | .writeRegister => true
  | .writeRegisters => true
  | .crcInit => true
  | .crcByte => true
  | .clear => true
  | .reservedCmd code => !(assignedCodes.contains code)
  | .rtuReqReadHolding slave _ qty => slaveOk slave && readQtyOk qty.toNat
  | .rtuReqWriteSingle slave _ _ => slaveOk slave
  | .rtuReqWriteMultiple slave _ values => slaveOk slave && writeQtyOk values.length
  | .rtuRspReadHolding _ _ values => readQtyOk values.length
  | .rtuRspWriteSingle _ _ _ => true
  | .rtuRspWriteMultiple _ _ _ => true
  | .rtuRspException _ fc _ rest => fc.getLsbD 7 && decide (5 + rest.length ≤ Config.rxbufSize)

end Sys2Proof
end

