-- ==== Sys2Proof/Decode.lean ====
section
/-! DEFINITION. The decoder and, after it, the encoder (30_encoding.md R70 to R90). The decoder is total on any bytes and rejects
by name; it is told the format, since the three formats share byte values (R90). -/

namespace Sys2Proof

open Machine

/-- Why a word or frame is rejected. -/
inductive Reject where
  /-- Fewer bytes than the format has. -/
  | tooShort
  /-- More bytes than the format, or the buffer, has. -/
  | tooLong
  /-- The last two bytes are not the CRC of the bytes before them (R74, R104). -/
  | badCrc
  /-- Byte 1 is no function code of the format (R2, R85). -/
  | badFunction
  /-- The length is not one the function code has (R75 to R81). -/
  | badLength
  /-- A request to a slave outside 1 to 247 (R86). -/
  | badSlave
  /-- A quantity outside the function code's range, or one that does not match the values or the byte count (R75, R77). -/
  | badQuantity
deriving DecidableEq, Repr

/-- The command a code selects (R71, R72): six codes are assigned, every other one is reserved. -/
def decodeCommand (code : Byte) : Instr :=
  if code = 0x03#8 then .readRegisters
  else if code = 0x06#8 then .writeRegister
  else if code = 0x10#8 then .writeRegisters
  else if code = 0x20#8 then .crcInit
  else if code = 0x21#8 then .crcByte
  else if code = 0x2F#8 then .clear
  else .reservedCmd code

/-- A 32-bit write to CTRL (R70): bits [7:0] are CMD, bits [31:8] are ignored. -/
def decodeCtrl (v : Word) : Instr := decodeCommand (low8 v)

/-- A request frame without its CRC (R75 to R77). -/
def decodeRequestBody : List Byte → Except Reject Instr
  | slave :: fc :: r1 :: r0 :: q1 :: q0 :: rest =>
    if !slaveOk slave then .error .badSlave
    else if fc = 0x03#8 then
      if rest.length ≠ 0 then .error .badLength
      else if !readQtyOk (be16 q1 q0).toNat then .error .badQuantity
      else .ok (.rtuReqReadHolding slave (be16 r1 r0) (be16 q1 q0))
    else if fc = 0x06#8 then
      if rest.length ≠ 0 then .error .badLength
      else .ok (.rtuReqWriteSingle slave (be16 r1 r0) (be16 q1 q0))
    else if fc = 0x10#8 then
      match rest with
      | [] => .error .badLength
      | count :: payload =>
        match fromBigEndian payload with
        | none => .error .badLength
        | some values =>
          if !writeQtyOk values.length || decide ((be16 q1 q0).toNat ≠ values.length)
              || decide (count.toNat ≠ 2 * values.length) then .error .badQuantity
          else .ok (.rtuReqWriteMultiple slave (be16 r1 r0) values)
    else .error .badFunction
  | _ => .error .tooShort

/-- A response frame without its CRC (R78 to R81): bit 7 of byte 1 first (R85). -/
def decodeResponseBody : List Byte → Except Reject Instr
  | slave :: fc :: rest =>
    if fc.getLsbD 7 then
      match rest with
      | [] => .error .tooShort
      | code :: pad => .ok (.rtuRspException slave fc code pad)
    else if fc = 0x03#8 then
      match rest with
      | [] => .error .badLength
      | count :: payload =>
        match fromBigEndian payload with
        | none => .error .badLength
        | some values =>
          if readQtyOk values.length then .ok (.rtuRspReadHolding slave count values) else .error .badQuantity
    else if fc = 0x06#8 then
      match rest with
      | [r1, r0, v1, v0] => .ok (.rtuRspWriteSingle slave (be16 r1 r0) (be16 v1 v0))
      | _ => .error .badLength
    else if fc = 0x10#8 then
      match rest with
      | [r1, r0, q1, q0] => .ok (.rtuRspWriteMultiple slave (be16 r1 r0) (be16 q1 q0))
      | _ => .error .badLength
    else .error .badFunction
  | _ => .error .tooShort

/-- A frame: its length, its CRC (R104), then its body. -/
def decodeFrame (size : Nat) (body : List Byte → Except Reject Instr) (f : List Byte) : Except Reject Instr :=
  if f.length < 5 then .error .tooShort
  else if size < f.length then .error .tooLong
  else if !crcOk f then .error .badCrc
  else body (f.take (f.length - 2))

/-- The decoder: the instruction the bytes of one format stand for. The four bytes of a CTRL write stand least significant
first (log 4). -/
def decode : Format → List Byte → Except Reject Instr
  | .ctrl, [b0, b1, b2, b3] => .ok (decodeCtrl (b3 ++ b2 ++ b1 ++ b0))
  | .ctrl, bs => if bs.length < 4 then .error .tooShort else .error .tooLong
  | .request, bs => decodeFrame Config.txbufSize decodeRequestBody bs
  | .response, bs => decodeFrame Config.rxbufSize decodeResponseBody bs

/-- The format of an instruction's row in the opcode table. -/
def formatOf : Instr → Format
  | .readRegisters => .ctrl
  | .readRegister => .ctrl
  | .writeRegister => .ctrl
  | .writeRegisters => .ctrl
  | .crcInit => .ctrl
  | .crcByte => .ctrl
  | .clear => .ctrl
  | .reservedCmd _ => .ctrl
  | .rtuReqReadHolding _ _ _ => .request
  | .rtuReqWriteSingle _ _ _ => .request
  | .rtuReqWriteMultiple _ _ _ => .request
  | .rtuRspReadHolding _ _ _ => .response
  | .rtuRspWriteSingle _ _ _ => .response
  | .rtuRspWriteMultiple _ _ _ => .response
  | .rtuRspException _ _ _ _ => .response

/-- The four bytes of a write of a command code to CTRL (R70): bits [31:8] written as 0. -/
def ctrlBytes (code : Byte) : List Byte := [code, 0#8, 0#8, 0#8]

/-- The encoder: the bytes of an instruction (R71, R75 to R81). READ_REGISTER has no code of its own (R175): its CTRL write is
that of READ_REGISTERS, after the write P_QTY ← 1. -/
def encode : Instr → List Byte
  | .readRegisters => ctrlBytes 0x03#8
  | .readRegister => ctrlBytes 0x03#8
  | .writeRegister => ctrlBytes 0x06#8
  | .writeRegisters => ctrlBytes 0x10#8
  | .crcInit => ctrlBytes 0x20#8
  | .crcByte => ctrlBytes 0x21#8
  | .clear => ctrlBytes 0x2F#8
  | .reservedCmd code => ctrlBytes code
  | .rtuReqReadHolding slave start qty => readRequestFrame slave start qty
  | .rtuReqWriteSingle slave reg value => writeSingleFrame slave reg value
  | .rtuReqWriteMultiple slave start values => writeMultipleFrame slave start values
  | .rtuRspReadHolding slave byteCount values => readReplyFrame slave byteCount values
  | .rtuRspWriteSingle slave reg value => writeSingleFrame slave reg value
  | .rtuRspWriteMultiple slave start qty => writeMultipleReplyFrame slave start qty
  | .rtuRspException slave fc code rest => exceptionFrame slave fc code rest

/-- The `n` bytes of a number, least significant first. -/
def bytesOfNat : Nat → Nat → List Byte
  | 0, _ => []
  | n + 1, w => BitVec.ofNat 8 w :: bytesOfNat n (w / 256)

/-- Up to how many bits a table word is a write to CTRL (R70); a longer one is a frame. -/
def ctrlBits : Nat := 32

/-- What the decoder reads from a word numbered as the opcode table numbers it. The table numbers every row's bits within one
byte (CTRL[7:0], or byte 1 of a frame), so a word of at most 32 bits is what the machine takes as an instruction: a write to
CTRL. A longer word is a frame the channel delivers, bit 0 the least significant bit of its byte 0 (log 3). -/
def decodeTableWord (nbits w : Nat) : Option Instr :=
  if nbits ≤ ctrlBits then (decode .ctrl (bytesOfNat 4 (w % 2 ^ nbits))).toOption
  else (decode .response (bytesOfNat (nbits / 8) w)).toOption

end Sys2Proof
end

