-- ==== Sys2Proof/Machine/State.lean ====
section
/-! DEFINITION. The state of the engine and of the agents beside it (10_state.md), its value after reset (R47), and the reasons a
step can stop. -/

namespace Sys2Proof.Machine

/-- STATE, the exchange controller's state (R32). -/
inductive ExchangeState where
  /-- 0: no exchange since reset or CLEAR. -/
  | idle
  /-- 1: a request has been accepted and is being written, or the settle delay is running. -/
  | sent
  /-- 2: the read is in progress. -/
  | awaiting
  /-- 3: the last exchange succeeded. -/
  | validated
  /-- 4: the last command ended with a failure status. -/
  | failed
deriving DecidableEq, Repr

/-- SENT_PH, the phase within SENT (R32, C10). -/
inductive SentPhase where
  /-- WRITE: the request write has not yet completed. -/
  | write
  /-- SETTLE: the settle delay is running. -/
  | settle
deriving DecidableEq, Repr

/-- STATUS, the result code of the last command (R33, R201). -/
inductive Status where
  | none
  | ok
  | incompleteResponse
  | checksumMismatch
  | exceptionResponse
  | echoMismatch
  | transportError
  | invalidRequest
deriving DecidableEq, Repr

/-- A host register (R22): the names of the register map, and `unmapped` for an index no rule assigns. -/
inductive HostReg where
  | ctrl
  | pSlave
  | pReg
  | pQty
  | pValue
  | crcIn
  | cfgSettle
  | cfgTimeout
  | stat
  | rxCount
  | crcAcc
  | expLen
  | txLen
  | wdata (i : Nat)
  | rdata (i : Nat)
  | unmapped
deriving DecidableEq, Repr

/-- One host access: a whole 32-bit register written or read (R51). -/
inductive HostAccess where
  /-- WR: the host writes a register. -/
  | write (index : RegIndex) (value : Word)
  /-- RD: the host reads a register. -/
  | read (index : RegIndex)
deriving DecidableEq, Repr

/-- The channel's answer to the operation the engine performs in its turn (R54, R55). -/
inductive ChanAnswer where
  /-- No error. For a ChanWrite, `count` is the number of bytes reported written; a ChanRead does not look at it, its bytes come
  from the channel's input queue. -/
  | done (count : Nat)
  /-- ERR. -/
  | err
deriving DecidableEq, Repr

/-- One move of one agent (R7): a step takes the first event (log 1). -/
inductive Event where
  /-- The host makes one access (R51). -/
  | host (access : HostAccess)
  /-- The engine takes its turn: the write, settle or read-complete step of R160 if one is due. `answer` is what the channel
  answers to the operation the engine performs in it. -/
  | engine (answer : ChanAnswer)
  /-- The channel answers the read in progress: these bytes arrive and the read ends, by R181 (log 6, log 8). With no read in
  progress they wait in the input queue. -/
  | reply (bytes : List Byte)
  /-- Bytes reach the channel's input queue (R49). -/
  | arrive (bytes : List Byte)
  /-- The first bytes of the input queue leave it by means outside the engine (R238, R240). -/
  | drain (count : Nat)
  /-- The CH_OPEN input changes (R46). -/
  | channelOpen (isOpen : Bool)
  /-- Time units pass (R11 Wait, R216). -/
  | elapse (units : Nat)
  /-- The platform asserts RST (R230). -/
  | reset
deriving DecidableEq, Repr

/-- The state: the engine's registers (R22 to R45), the channel agent (R46, R49, R54), and two fields of the model's own: what
the host's last read returned, and the events to come. -/
structure State where
  /-- P_SLAVE (R24). -/
  pSlave : Byte
  /-- P_REG (R25). -/
  pReg : HalfWord
  /-- P_QTY (R26). -/
  pQty : HalfWord
  /-- P_VALUE (R27). -/
  pValue : HalfWord
  /-- CRC_IN (R28). -/
  crcIn : Byte
  /-- CFG_SETTLE (R29). -/
  cfgSettle : Word
  /-- CFG_TIMEOUT (R30). -/
  cfgTimeout : Word
  /-- STAT.STATE (R32). -/
  state : ExchangeState
  /-- STAT.STATUS (R33). -/
  status : Status
  /-- STAT.EXC_CODE (R34). -/
  excCode : Byte
  /-- STAT.RDATA_VALID (R35). -/
  rdataValid : Bool
  /-- STAT.OVERRUN (R36). -/
  overrun : Bool
  /-- RX_COUNT (R38). -/
  rxCount : HalfWord
  /-- CRC_ACC (R39). -/
  crcAcc : HalfWord
  /-- EXP_LEN (R44). -/
  expLen : HalfWord
  /-- TX_LEN (R43). -/
  txLen : HalfWord
  /-- WDATA[i], 0 ≤ i < MAX_WRITE_QTY (R40). -/
  wdata : Memory 16
  /-- RDATA[i], 0 ≤ i < MAX_READ_QTY (R41). -/
  rdata : Memory 16
  /-- L_FC (R42). -/
  lFc : Byte
  /-- L_SLAVE (R42). -/
  lSlave : Byte
  /-- L_REG (R42). -/
  lReg : HalfWord
  /-- L_QTY (R42). -/
  lQty : HalfWord
  /-- L_VALUE (R42). -/
  lValue : HalfWord
  /-- L_WDATA[i] (R42). -/
  lWdata : Memory 16
  /-- L_SETTLE (R42). -/
  lSettle : Word
  /-- L_TIMEOUT (R42). -/
  lTimeout : Word
  /-- TXBUF (R43), 255 bytes. -/
  txbuf : Memory 8
  /-- RXBUF (R44), 255 bytes. -/
  rxbuf : Memory 8
  /-- SETTLE_T (R45). -/
  settleT : Word
  /-- TIMEOUT_T (R45). -/
  timeoutT : Word
  /-- SENT_PH (R32). -/
  sentPh : SentPhase
  /-- CH_OPEN (R46), an input from the channel agent. -/
  chOpen : Bool
  /-- The channel's input queue (R49): bytes received that no read has returned, oldest first. -/
  inputQueue : List Byte
  /-- The frames handed to ChanWrite, oldest first (R54; log 16). -/
  written : List (List Byte)
  /-- What the host's last register read returned (R51). -/
  hostData : Word
  /-- The moves the agents make next, first one first (log 1). -/
  events : List Event
deriving DecidableEq, Repr

/-- The machine right after reset (R47, R231). Where R47 says unspecified (latches, buffer contents, SENT_PH) the values are a
DESIGN CHOICE (log 10, log 12), as are the channel's condition and the model's own fields at power-on (log 11, log 1). -/
def State.reset : State where
  pSlave := 0#8
  pReg := 0#16
  pQty := 0#16
  pValue := 0#16
  crcIn := 0#8
  cfgSettle := Config.settleDefault
  cfgTimeout := Config.timeoutDefault
  state := .idle
  status := .none
  excCode := 0#8
  rdataValid := false
  overrun := false
  rxCount := 0#16
  crcAcc := Config.crcInit
  expLen := 0#16
  txLen := 0#16
  wdata := []
  rdata := []
  lFc := 0#8
  lSlave := 0#8
  lReg := 0#16
  lQty := 0#16
  lValue := 0#16
  lWdata := []
  lSettle := 0#32
  lTimeout := 0#32
  txbuf := []
  rxbuf := []
  settleT := 0#32
  timeoutT := 0#32
  sentPh := .write
  chOpen := false
  inputQueue := []
  written := []
  hostData := 0#32
  events := []

/-- Why the machine stops with a fault. The spec's engine traps on nothing (R215); the one fault marks states no run reaches. -/
inductive Fault where
  /-- An access past the end of a buffer or array: TX_LEN or a capture beyond the 255 bytes of TXBUF or RXBUF (R43, R44), or a
  value beyond RDATA (R41). Raised by the engine's write step and by read completion. Safe: the index does not exist (log 13). -/
  | bufferBounds
deriving DecidableEq, Repr

/-- Why the machine refuses to go on. -/
inductive Refusal where
  /-- An arm of `exec` with no meaning yet. Raised by no arm of this model. Safe. -/
  | notModelled (mnemonic : String)
  /-- The validator was given a capture longer than expected (R142: a model shall refuse it). Raised by read completion, in no
  state a run reaches. Safe. -/
  | captureTooLong
deriving DecidableEq, Repr

/-- What a meaning or a step answers. -/
abbrev Result := Host.Outcome State Fault Refusal

end Sys2Proof.Machine
end

