-- ==== Sys2Proof/Machine/Ops.lean ====
section
/-! DEFINITION. The named operations over the buffers and over the exchange state: MemRead and MemWrite (00_scope.md R11), the
failure entry `raise` (60_exceptions.md R203, the engine's counterpart of taking an exception), what leaves the failed or
validated state again (R212: acceptance and CLEAR), and the reset event (70_reset_and_hazards.md R230). -/

namespace Sys2Proof.Machine

/-- What an index that is not listed reads as: 0, the reset value of WDATA and RDATA (R47). For TXBUF, RXBUF and L_WDATA, whose
contents after reset R47 leaves unspecified, it is a DESIGN CHOICE, unsafe (log 12). -/
def unlisted (w : Nat) : BitVec w := 0#w

/-- The canonical form: indices strictly rising, all at least `lo` and below `size`, no entry at what an unlisted index reads. -/
def Memory.wfFrom {w : Nat} (lo size : Nat) : Memory w → Bool
  | [] => true
  | (k, v) :: rest => decide (lo ≤ k) && decide (k < size) && (v != unlisted w) && Memory.wfFrom (k + 1) size rest

/-- A buffer or array of `size` entries in canonical form. -/
def Memory.wf {w : Nat} (size : Nat) (m : Memory w) : Bool := Memory.wfFrom 0 size m

/-- One entry. -/
def readCell {w : Nat} : Memory w → Nat → BitVec w
  | [], _ => unlisted w
  | (k, v) :: rest, i => if k = i then v else readCell rest i

/-- One entry written; the form stays canonical. -/
def writeCell {w : Nat} : Memory w → Nat → BitVec w → Memory w
  | [], i, v => if v = unlisted w then [] else [(i, v)]
  | (k, u) :: rest, i, v =>
    if i < k then (if v = unlisted w then (k, u) :: rest else (i, v) :: (k, u) :: rest)
    else if i = k then (if v = unlisted w then rest else (k, v) :: rest)
    else (k, u) :: writeCell rest i v

/-- `MemRead(buf, i, n)` (R11): entries `i` to `i+n-1`. -/
def memRead {w : Nat} (m : Memory w) (i : Nat) : Nat → List (BitVec w)
  | 0 => []
  | n + 1 => readCell m i :: memRead m (i + 1) n

/-- `MemWrite(buf, i, n, s)` (R11): the entries of `s` from index `i` on. -/
def memWrite {w : Nat} (m : Memory w) (i : Nat) : List (BitVec w) → Memory w
  | [] => m
  | v :: vs => memWrite (writeCell m i v) (i + 1) vs

/-- BUSY (R37): STATE ∈ {SENT, AWAITING}. -/
def busy (s : State) : Bool := s.state == .sent || s.state == .awaiting

/-- DONE (R37): STATE ∈ {VALIDATED, FAILED}. -/
def done (s : State) : Bool := s.state == .validated || s.state == .failed

/-- What a failure carries beside its status (R131): nothing (written `-`), the number of bytes received, or an exception code. -/
inductive Info where
  /-- `-`: no information. -/
  | none
  /-- INCOMPLETE_RESPONSE: n, the bytes received (R131 step 1; RX_COUNT records it, R132). -/
  | count (n : Nat)
  /-- EXCEPTION_RESPONSE: byte 2 of the response (R134). -/
  | code (c : Byte)
deriving DecidableEq, Repr

/-- The exception code carried, or `old` where none is. -/
def Info.codeOr (old : Byte) : Info → Byte
  | .none => old
  | .count _ => old
  | .code c => c

/-- `raise S(info)` (R203): STATE ← FAILED, STATUS ← S, and for EXCEPTION_RESPONSE EXC_CODE ← info. Nothing else changes. -/
def raise (status : Status) (info : Info) (s : State) : State :=
  { s with state := .failed, status := status,
           excCode := if status = .exceptionResponse then info.codeOr s.excCode else s.excCode }

/-- Clearing results at acceptance (R163). RDATA and OVERRUN are not cleared. -/
def clearResults (s : State) : State :=
  { s with status := .none, excCode := 0#8, rdataValid := false, rxCount := 0#16 }

/-- Invalid parameters (R164): TX_LEN ← 0, EXP_LEN ← 0, raise INVALID_REQUEST. -/
def rejectRequest (s : State) : State :=
  raise .invalidRequest .none { s with txLen := 0#16, expLen := 0#16 }

/-- The encoder's result recorded (R110): the frame into TXBUF, its length and the expected response length. -/
def recordRequest (frame : List Byte) (expLen : HalfWord) (s : State) : State :=
  { s with txbuf := memWrite s.txbuf 0 frame, txLen := BitVec.ofNat 16 frame.length, expLen := expLen }

/-- The end of an acceptance (R162): STATE ← SENT, SENT_PH ← WRITE. -/
def startExchange (s : State) : State := { s with state := .sent, sentPh := .write }

/-- A command other than CRC_INIT and CRC_BYTE while BUSY = 1 (R161, R209): OVERRUN ← 1, the command is dropped. -/
def overrunOnly (s : State) : State := { s with overrun := true }

/-- CLEAR with BUSY = 0 (R178): the result registers return to their reset values, STATE to IDLE. -/
def clearAll (s : State) : State :=
  { s with state := .idle, status := .none, excCode := 0#8, rdataValid := false, overrun := false, rxCount := 0#16,
           expLen := 0#16, txLen := 0#16 }

/-- RXBUF and RX_COUNT written at read completion (R53, R169). -/
def capture (r : List Byte) (s : State) : State :=
  { s with rxbuf := memWrite s.rxbuf 0 r, rxCount := BitVec.ofNat 16 r.length }

/-- The completion transition on OK (R170, R171): STATE ← VALIDATED, STATUS ← OK, and for a 0x03 exchange RDATA[0 .. Q-1] and
RDATA_VALID ← 1. -/
def complete (values : List HalfWord) (s : State) : State :=
  if s.lFc = 0x03#8 then
    { s with state := .validated, status := .ok, rdata := memWrite s.rdata 0 values, rdataValid := true }
  else { s with state := .validated, status := .ok }

/-- A timer counts down to 0 and stays there (R45, R216). -/
def countDown (t : Word) (units : Nat) : Word := BitVec.ofNat 32 (t.toNat - units)

/-- Time units pass (R167, R181, R216): both timers count down. -/
def elapse (units : Nat) (s : State) : State :=
  { s with settleT := countDown s.settleT units, timeoutT := countDown s.timeoutT units }

/-- The reset event (R230): every piece of engine state takes its value from R47. The channel is not touched, CH_OPEN is an input
and is not reset, and what the host read and the events to come are not the engine's. -/
def resetEngine (s : State) : State :=
  { State.reset with chOpen := s.chOpen, inputQueue := s.inputQueue, written := s.written, hostData := s.hostData,
                     events := s.events }

end Sys2Proof.Machine
end

