-- ==== Sys2Proof/Machine/Flags.lean ====
section
/-! DEFINITION. The status register STAT (10_state.md R31 to R37) assembled from the fields State holds. -/

namespace Sys2Proof.Machine

/-- The encoding of STATE in STAT[2:0] (R32). -/
def stateCode : ExchangeState → BitVec 3
  | .idle => 0#3
  | .sent => 1#3
  | .awaiting => 2#3
  | .validated => 3#3
  | .failed => 4#3

/-- The encoding of STATUS in STAT[7:4] (R33, R201). -/
def statusCode : Status → BitVec 4
  | .none => 0#4
  | .ok => 1#4
  | .incompleteResponse => 2#4
  | .checksumMismatch => 3#4
  | .exceptionResponse => 4#4
  | .echoMismatch => 5#4
  | .transportError => 6#4
  | .invalidRequest => 7#4

/-- STAT (R31), bits 31 down to 0: reserved, DONE, BUSY, OVERRUN, RDATA_VALID, EXC_CODE, STATUS, reserved, STATE. -/
def stat (s : State) : Word :=
  0#12 ++ BitVec.ofBool (done s) ++ BitVec.ofBool (busy s) ++ BitVec.ofBool s.overrun ++ BitVec.ofBool s.rdataValid
    ++ s.excCode ++ statusCode s.status ++ 0#1 ++ stateCode s.state

end Sys2Proof.Machine
end

