-- ==== Sys2Proof/Machine/Operands.lean ====
section
/-! DEFINITION. The host register map (10_state.md R22 to R41) and where a command's operands come from (30_encoding.md R73,
10_state.md R42). -/

namespace Sys2Proof.Machine

/-- The register an index selects (R22); WDATA at 0x100 + i for i < MAX_WRITE_QTY, RDATA at 0x200 + i for i < MAX_READ_QTY. -/
def hostReg (index : RegIndex) : HostReg :=
  let i := index.toNat
  if i = 0x000 then .ctrl
  else if i = 0x001 then .pSlave
  else if i = 0x002 then .pReg
  else if i = 0x003 then .pQty
  else if i = 0x004 then .pValue
  else if i = 0x005 then .crcIn
  else if i = 0x006 then .cfgSettle
  else if i = 0x007 then .cfgTimeout
  else if i = 0x008 then .stat
  else if i = 0x009 then .rxCount
  else if i = 0x00A then .crcAcc
  else if i = 0x00B then .expLen
  else if i = 0x00C then .txLen
  else if 0x100 ≤ i ∧ i < 0x100 + Config.maxWriteQty then .wdata (i - 0x100)
  else if 0x200 ≤ i ∧ i < 0x200 + Config.maxReadQty then .rdata (i - 0x200)
  else .unmapped

/-- A host read (R22): reserved bits, CTRL and unmapped indices read 0. -/
def readReg (s : State) : HostReg → Word
  | .ctrl => 0#32
  | .pSlave => s.pSlave.setWidth 32
  | .pReg => s.pReg.setWidth 32
  | .pQty => s.pQty.setWidth 32
  | .pValue => s.pValue.setWidth 32
  | .crcIn => s.crcIn.setWidth 32
  | .cfgSettle => s.cfgSettle
  | .cfgTimeout => s.cfgTimeout
  | .stat => stat s
  | .rxCount => s.rxCount.setWidth 32
  | .crcAcc => s.crcAcc.setWidth 32
  | .expLen => s.expLen.setWidth 32
  | .txLen => s.txLen.setWidth 32
  | .wdata i => (readCell s.wdata i).setWidth 32
  | .rdata i => (readCell s.rdata i).setWidth 32
  | .unmapped => 0#32

/-- A host write to a register other than CTRL (R22): reserved bits, read-only registers and unmapped indices ignore it. CTRL
stores nothing (R23); the command such a write issues is decoded and run by `react`. -/
def writeReg (v : Word) (s : State) : HostReg → State
  | .ctrl => s
  | .pSlave => { s with pSlave := low8 v }
  | .pReg => { s with pReg := low16 v }
  | .pQty => { s with pQty := low16 v }
  | .pValue => { s with pValue := low16 v }
  | .crcIn => { s with crcIn := low8 v }
  | .cfgSettle => { s with cfgSettle := v }
  | .cfgTimeout => { s with cfgTimeout := v }
  | .stat => s
  | .rxCount => s
  | .crcAcc => s
  | .expLen => s
  | .txLen => s
  | .wdata i => { s with wdata := writeCell s.wdata i (low16 v) }
  | .rdata _ => s
  | .unmapped => s

/-- The operands latched at acceptance (R42, R162): L_WDATA[0 .. Q-1] only for 0x10 with 1 ≤ Q ≤ MAX_WRITE_QTY (R73). -/
def latch (fc : Byte) (s : State) : State :=
  { s with
    lFc := fc
    lSlave := s.pSlave
    lReg := s.pReg
    lQty := s.pQty
    lValue := s.pValue
    lSettle := s.cfgSettle
    lTimeout := s.cfgTimeout
    lWdata :=
      if fc = 0x10#8 ∧ writeQtyOk s.pQty.toNat = true then memWrite s.lWdata 0 (memRead s.wdata 0 s.pQty.toNat)
      else s.lWdata }

end Sys2Proof.Machine
end

