-- ==== Sys2Proof/Machine/CrcCommands.lean ====
section
/-! DEFINITION. The host's CRC commands (40_crc.md R105, R106), accepted in every STATE. -/

namespace Sys2Proof.Machine

/-- CRC_INIT (R105): CRC_ACC ← 0xFFFF. -/
def execCrcInit (s : State) : Result := .next { s with crcAcc := Config.crcInit }

/-- CRC_BYTE (R106): CRC_ACC ← crc_byte(CRC_ACC, CRC_IN). -/
def execCrcByte (s : State) : Result := .next { s with crcAcc := crcByte s.crcAcc s.crcIn }

end Sys2Proof.Machine
end

