-- ==== Sys2Proof/Machine/Decoder.lean ====
section
/-! DEFINITION. The response decoder and validator (42_decoder.md), read completion (43_exchange.md R168 to R171) and the meanings
of the RTU_RSP rows. -/

namespace Sys2Proof.Machine

/-- The validator's output (R130): OK(values) or FAIL(status, info). -/
inductive Verdict where
  | ok (values : List HalfWord)
  | fail (status : Status) (info : Info)
deriving DecidableEq, Repr

/-- Bit 7 of a response's function-code byte (R81, R134). -/
def exceptionFlag (f : List Byte) : Bool := (byteAt f 1).getLsbD 7

/-- Bytes 0 to 5 of a reply equal those of the request (R135, R136). -/
def echoMatches (req f : List Byte) : Bool := f.take 6 == req.take 6

/-- Step 3 (R134): EXC_CODE is byte 2, not interpreted. -/
def judgeException (f : List Byte) : Verdict := .fail .exceptionResponse (.code (byteAt f 2))

/-- Step 4 for 0x06 (R135): address, function code, register and value. -/
def judgeWriteSingle (req f : List Byte) : Verdict :=
  if echoMatches req f then .ok [] else .fail .echoMismatch .none

/-- Step 4 for 0x10 (R136): address, function code, start register and quantity. -/
def judgeWriteMultiple (req f : List Byte) : Verdict :=
  if echoMatches req f then .ok [] else .fail .echoMismatch .none

/-- Step 5 (R139, R140): `values[i] = be16(f[3+2i], f[4+2i])` for `i < q`, in wire order. -/
def decodeValues (q : Nat) (f : List Byte) : List HalfWord :=
  (List.range q).map fun i => be16 (byteAt f (3 + 2 * i)) (byteAt f (4 + 2 * i))

/-- Step 4 for reads (R137), address and function code, then step 5. The byte count is not checked (R138). -/
def judgeRead (req f : List Byte) : Verdict :=
  if byteAt f 0 ≠ byteAt req 0 ∨ byteAt f 1 ≠ byteAt req 1 then .fail .echoMismatch .none
  else .ok (decodeValues (be16 (byteAt req 4) (byteAt req 5)).toNat f)

/-- The validator (R131), its steps in order; `none` outside its domain `n ≤ exp`, where a model shall refuse (R142). -/
def validate (req : List Byte) (exp : Nat) (f : List Byte) : Option Verdict :=
  if exp < f.length then none
  else if f.length < exp then some (.fail .incompleteResponse (.count f.length))
  else if !crcOk f then some (.fail .checksumMismatch .none)
  else if exceptionFlag f then some (judgeException f)
  else if byteAt req 1 = 0x06#8 then some (judgeWriteSingle req f)
  else if byteAt req 1 = 0x10#8 then some (judgeWriteMultiple req f)
  else some (judgeRead req f)

/-- The result recorded (R170, R171). A value past the end of RDATA has no register: a fault, in no state a run reaches
(log 13). -/
def recordVerdict (v : Option Verdict) (s : State) : Result :=
  match v with
  | none => .refused .captureTooLong
  | some (.fail status info) => .next (raise status info s)
  | some (.ok values) => if Config.maxReadQty < values.length then .fault .bufferBounds else .next (complete values s)

/-- Read completion with the bytes `r` (R169 to R171), one transition. -/
def completeRead (r : List Byte) (s : State) : Result :=
  if Config.rxbufSize < r.length ∨ Config.txbufSize < s.txLen.toNat then .fault .bufferBounds
  else
    let c := capture r s
    recordVerdict (validate (memRead c.txbuf 0 c.txLen.toNat) c.expLen.toNat (memRead c.rxbuf 0 c.rxCount.toNat)) c

/-- The read ends with what the channel's input queue holds, at most EXP_LEN bytes (R55, R181); the rest stay there (R238). -/
def takeReply (s : State) : Result :=
  completeRead (s.inputQueue.take s.expLen.toNat) { s with inputQueue := s.inputQueue.drop s.expLen.toNat }

/-- EXP_LEN bytes are waiting (R181 (a)). -/
def replyComplete (s : State) : Bool := decide (s.expLen.toNat ≤ s.inputQueue.length)

/-- The engine's turn in AWAITING. An ERR, or a closed channel, which answers ERR to a read (decision D16), raises
TRANSPORT_ERROR (R169); the read ends at EXP_LEN bytes or when TIMEOUT_T is 0 (R181); otherwise it goes on. R172 does not say what
the channel's input queue holds after a read that answers ERR: here every waiting byte stays in it (DESIGN CHOICE, log 17). Nor does
R169 or decision D16 say at which moment CH_OPEN counts for a read: here it is looked at when the read would be answered, not at its
issue, and before the bytes that wait (DESIGN CHOICE, log 18). -/
def readTurn (answer : ChanAnswer) (s : State) : Result :=
  if answer = .err ∨ s.chOpen = false then .next (raise .transportError .none s)
  else if replyComplete s = true ∨ s.timeoutT = 0#32 then takeReply s
  else .next s

/-- Bytes reach the input queue (R49). -/
def arrive (bytes : List Byte) (s : State) : State := { s with inputQueue := s.inputQueue ++ bytes }

/-- A read in progress waits for its end (R181): nothing passes when EXP_LEN bytes are there, the rest of its timeout otherwise. -/
def awaitEnd (s : State) : State := if replyComplete s then s else { s with timeoutT := 0#32 }

/-- Bytes arrive; a read in progress then ends with what is waiting (R181), or in TRANSPORT_ERROR on a closed channel, which
answers ERR to a read (R169, decision D16) and keeps every waiting byte, these among them (DESIGN CHOICE, log 17); CH_OPEN is
looked at here, when the read is answered, also where EXP_LEN bytes are there (DESIGN CHOICE, log 18). With no read in progress the
bytes wait (R49, R238). -/
def deliver (bytes : List Byte) (s : State) : Result :=
  let a := arrive bytes s
  if a.state = .awaiting then
    if a.chOpen = false then .next (raise .transportError .none a) else takeReply (awaitEnd a)
  else .next a

/-- RTU_RSP_READ_HOLDING (R78, R137 to R139): this frame answers the read in progress. -/
def execRtuRspReadHolding (slave byteCount : Byte) (values : List HalfWord) (s : State) : Result :=
  deliver (readReplyFrame slave byteCount values) s

/-- RTU_RSP_WRITE_SINGLE (R79, R135): this frame answers the read in progress. -/
def execRtuRspWriteSingle (slave : Byte) (reg value : HalfWord) (s : State) : Result :=
  deliver (writeSingleFrame slave reg value) s

/-- RTU_RSP_WRITE_MULTIPLE (R80, R136): this frame answers the read in progress. -/
def execRtuRspWriteMultiple (slave : Byte) (start qty : HalfWord) (s : State) : Result :=
  deliver (writeMultipleReplyFrame slave start qty) s

/-- RTU_RSP_EXCEPTION (R81, R134): this frame answers the read in progress. -/
def execRtuRspException (slave fc code : Byte) (rest : List Byte) (s : State) : Result :=
  deliver (exceptionFrame slave fc code rest) s

end Sys2Proof.Machine
end

