-- ==== Sys2Proof/Machine/Encoder.lean ====
section
/-! DEFINITION. The request frame encoder (41_encoder.md) and the meanings of the RTU_REQ rows: the encoder called with these
operands, its result recorded by the controller (log 5). -/

namespace Sys2Proof.Machine

/-- The expected response length (R117); 0 for a function code the engine does not send. -/
def expectedLength (fc : Byte) (qty : HalfWord) : HalfWord :=
  if fc = 0x03#8 then 5#16 + 2#16 * qty
  else if fc = 0x06#8 then 8#16
  else if fc = 0x10#8 then 8#16
  else 0#16

/-- Build a read-holding-registers request (R114); `none` is INVALID (R111, R112). -/
def buildRead (slave : Byte) (start qty : HalfWord) : Option (List Byte × HalfWord) :=
  if slaveOk slave && readQtyOk qty.toNat then some (readRequestFrame slave start qty, expectedLength 0x03#8 qty)
  else none

/-- Build a write-single-register request (R115); `none` is INVALID (R111). -/
def buildWriteSingle (slave : Byte) (reg value : HalfWord) : Option (List Byte × HalfWord) :=
  if slaveOk slave then some (writeSingleFrame slave reg value, expectedLength 0x06#8 0#16)
  else none

/-- Build a write-multiple-registers request (R116) of `qty` values, `value i` the i-th; `none` is INVALID (R111, R113). -/
def buildWriteMultiple (slave : Byte) (start : HalfWord) (qty : Nat) (value : Nat → HalfWord) : Option (List Byte × HalfWord) :=
  if slaveOk slave && writeQtyOk qty then
    some (writeMultipleFrame slave start ((List.range qty).map value), expectedLength 0x10#8 (BitVec.ofNat 16 qty))
  else none

/-- The encoder (R110). -/
def encodeRequest (fc slave : Byte) (reg qty value : HalfWord) (wdata : Memory 16) : Option (List Byte × HalfWord) :=
  if fc = 0x03#8 then buildRead slave reg qty
  else if fc = 0x06#8 then buildWriteSingle slave reg value
  else if fc = 0x10#8 then buildWriteMultiple slave reg qty.toNat (readCell wdata)
  else none

/-- The encoder applied to the latches (R110). -/
def encodeLatched (s : State) : Option (List Byte × HalfWord) :=
  encodeRequest s.lFc s.lSlave s.lReg s.lQty s.lValue s.lWdata

/-- The encoder's result recorded by the controller: a frame as R110 says, INVALID as R164 says. -/
def recordOrReject (r : Option (List Byte × HalfWord)) (s : State) : State :=
  match r with
  | some (frame, e) => recordRequest frame e s
  | none => rejectRequest s

/-- RTU_REQ_READ_HOLDING (R114): the encoder builds the 0x03 request of these operands. -/
def execRtuReqReadHolding (slave : Byte) (start qty : HalfWord) (s : State) : Result :=
  .next (recordOrReject (buildRead slave start qty) s)

/-- RTU_REQ_WRITE_SINGLE (R115): the encoder builds the 0x06 request of these operands. -/
def execRtuReqWriteSingle (slave : Byte) (reg value : HalfWord) (s : State) : Result :=
  .next (recordOrReject (buildWriteSingle slave reg value) s)

/-- RTU_REQ_WRITE_MULTIPLE (R116): the encoder builds the 0x10 request of these operands. -/
def execRtuReqWriteMultiple (slave : Byte) (start : HalfWord) (values : List HalfWord) (s : State) : Result :=
  .next (recordOrReject (buildWriteMultiple slave start values.length (fun i => values.getD i 0#16)) s)

end Sys2Proof.Machine
end

