-- ==== Sys2Proof/Machine/Exchange.lean ====
section
/-! DEFINITION. The exchange controller (43_exchange.md): the host commands and the engine's own steps. -/

namespace Sys2Proof.Machine

/-- Accepting an exchange command with BUSY = 0 (R162, R164): latch, clear results, encode, then SENT or FAILED. -/
def acceptExchange (fc : Byte) (s : State) : State :=
  let a := clearResults (latch fc s)
  match encodeLatched a with
  | some (frame, e) => startExchange (recordRequest frame e a)
  | none => rejectRequest a

/-- An exchange command (R161): dropped with OVERRUN while BUSY = 1. -/
def exchangeCommand (fc : Byte) (s : State) : State :=
  if busy s then overrunOnly s else acceptExchange fc s

/-- READ_REGISTERS (R174): a 0x03 exchange. -/
def execReadRegisters (s : State) : Result := .next (exchangeCommand 0x03#8 s)

/-- READ_REGISTER (R175): P_QTY ← 1, then READ_REGISTERS. P_QTY is stored while BUSY too (log 9). -/
def execReadRegister (s : State) : Result := .next (exchangeCommand 0x03#8 { s with pQty := 1#16 })

/-- WRITE_REGISTER (R176): a 0x06 exchange. -/
def execWriteRegister (s : State) : Result := .next (exchangeCommand 0x06#8 s)

/-- WRITE_REGISTERS (R177): a 0x10 exchange. -/
def execWriteRegisters (s : State) : Result := .next (exchangeCommand 0x10#8 s)

/-- CLEAR (R178): refused with OVERRUN while BUSY = 1 (R161). -/
def execClear (s : State) : Result := .next (if busy s then overrunOnly s else clearAll s)

/-- RESERVED_CMD (R179): the clearing of R163, TX_LEN ← 0, EXP_LEN ← 0, raise INVALID_REQUEST; OVERRUN only while BUSY = 1. The
code does not matter. -/
def execReservedCmd (_code : Byte) (s : State) : Result :=
  .next (if busy s then overrunOnly s else rejectRequest (clearResults s))

/-- The engine's turn in SENT with SENT_PH = WRITE: the channel-open check (R165), then one ChanWrite of TXBUF[0 .. TX_LEN-1],
good only when the answer is TX_LEN (R54, R166). -/
def writeTurn (answer : ChanAnswer) (s : State) : Result :=
  if s.chOpen = false then .next (raise .transportError .none s)
  else if Config.txbufSize < s.txLen.toNat then .fault .bufferBounds
  else
    let w := { s with written := s.written ++ [memRead s.txbuf 0 s.txLen.toNat] }
    if answer = .done s.txLen.toNat then .next { w with sentPh := .settle, settleT := s.lSettle }
    else .next (raise .transportError .none w)

/-- The engine's turn in SENT with SENT_PH = SETTLE: nothing until SETTLE_T is 0 (R167); then the read is issued (R168). -/
def settleTurn (s : State) : Result :=
  if s.settleT = 0#32 then .next { s with state := .awaiting, timeoutT := s.lTimeout } else .next s

/-- The engine's turn (R160). IDLE, VALIDATED and FAILED are quiescent (R220). -/
def engineTurn (answer : ChanAnswer) (s : State) : Result :=
  match s.state, s.sentPh with
  | .idle, _ => .next s
  | .sent, .write => writeTurn answer s
  | .sent, .settle => settleTurn s
  | .awaiting, _ => readTurn answer s
  | .validated, _ => .next s
  | .failed, _ => .next s

end Sys2Proof.Machine
end

