-- ==== Sys2Proof/Machine/Dispatch.lean ====
section
/-! DEFINITION. One arm for each instruction, each one call of its meaning. -/

namespace Sys2Proof.Machine

def exec (i : Instr) (s : State) : Host.Outcome State Fault Refusal :=
  match i with
  -- host commands (format CTRL)
  | .readRegisters => Sys2Proof.Machine.execReadRegisters s
  | .readRegister => Sys2Proof.Machine.execReadRegister s
  | .writeRegister => Sys2Proof.Machine.execWriteRegister s
  | .writeRegisters => Sys2Proof.Machine.execWriteRegisters s
  | .crcInit => Sys2Proof.Machine.execCrcInit s
  | .crcByte => Sys2Proof.Machine.execCrcByte s
  | .clear => Sys2Proof.Machine.execClear s
  | .reservedCmd code => Sys2Proof.Machine.execReservedCmd code s
  -- request frames (format RTU_REQ)
  | .rtuReqReadHolding slave start qty => Sys2Proof.Machine.execRtuReqReadHolding slave start qty s
  | .rtuReqWriteSingle slave reg value => Sys2Proof.Machine.execRtuReqWriteSingle slave reg value s
  | .rtuReqWriteMultiple slave start values => Sys2Proof.Machine.execRtuReqWriteMultiple slave start values s
  -- response frames (format RTU_RSP)
  | .rtuRspReadHolding slave byteCount values => Sys2Proof.Machine.execRtuRspReadHolding slave byteCount values s
  | .rtuRspWriteSingle slave reg value => Sys2Proof.Machine.execRtuRspWriteSingle slave reg value s
  | .rtuRspWriteMultiple slave start qty => Sys2Proof.Machine.execRtuRspWriteMultiple slave start qty s
  | .rtuRspException slave fc code rest => Sys2Proof.Machine.execRtuRspException slave fc code rest s

end Sys2Proof.Machine
end

