-- ==== Sys2Proof/Machine/Agents.lean ====
section
/-! DEFINITION. What each event does (00_scope.md R7): the host's accesses, the engine's turn, the channel's moves, time, reset. -/

namespace Sys2Proof.Machine

/-- A host access (R51). A write to CTRL issues the command its bits [7:0] select (R23, R70); every other write stores. A read
has no effect on the engine. -/
def hostAccess (access : HostAccess) (s : State) : Result :=
  match access with
  | .write index value =>
    match hostReg index with
    | .ctrl => exec (decodeCtrl value) s
    | r => .next (writeReg value s r)
  | .read index => .next { s with hostData := readReg s (hostReg index) }

/-- The channel answers the read with these bytes: a response frame runs as its instruction, and any other bytes (noise, a
truncated or corrupt frame) are delivered in the same way. -/
def channelReply (bytes : List Byte) (s : State) : Result :=
  match decode .response bytes with
  | .ok i => exec i s
  | .error _ => deliver bytes s

/-- One event. -/
def react (e : Event) (s : State) : Result :=
  match e with
  | .host access => hostAccess access s
  | .engine answer => engineTurn answer s
  | .reply bytes => channelReply bytes s
  | .arrive bytes => .next (arrive bytes s)
  | .drain count => .next { s with inputQueue := s.inputQueue.drop count }
  | .channelOpen isOpen => .next { s with chOpen := isOpen }
  | .elapse units => .next (elapse units s)
  | .reset => .next (resetEngine s)

/-- The event that makes the next step run a table word (log 2, log 3): a host write of it to CTRL, or, for a word longer than a
register, the channel's delivery of it as a frame. -/
def fetchEvent (nbits w : Nat) : Event :=
  if nbits ≤ ctrlBits then .host (.write 0#10 (BitVec.ofNat 32 (w % 2 ^ nbits)))
  else .reply (bytesOfNat (nbits / 8) w)

end Sys2Proof.Machine
end

