-- ==== Sys2Proof/Machine/Step.lean ====
section
/-! DEFINITION. One step of the machine: the first event, taken off the list and run. -/

namespace Sys2Proof.Machine

/-- One step. With no event left no agent moves and the state stays as it is (R220; log 1). -/
def step (s : State) : Host.Outcome State Fault Refusal :=
  match s.events with
  | [] => .next s
  | e :: rest => react e { s with events := rest }

/-- `s` with a table word where the next step takes its instruction: as the first event. -/
def State.withFetchWord (s : State) (nbits w : Nat) : State :=
  { s with events := fetchEvent nbits w :: s.events }

end Sys2Proof.Machine
end

