-- ==== Sys2Proof/Safety.lean ====
section
/-! DEFINITION. What a safe state and a safe run of the engine are, in the terms the statements use. -/

namespace Sys2Proof

open Machine

/-- The request in TXBUF: bytes 0 to TX_LEN-1 (R43, R52). -/
def txFrame (s : State) : List Byte := memRead s.txbuf 0 s.txLen.toNat

/-- The capture in RXBUF: bytes 0 to RX_COUNT-1 (R44, R53). -/
def rxFrame (s : State) : List Byte := memRead s.rxbuf 0 s.rxCount.toNat

/-- `t` holds this request where `s` held its own: TXBUF, TX_LEN and EXP_LEN (R110), TXBUF past the frame as before. -/
def Recorded (frame : List Byte) (expected : Nat) (s t : State) : Prop :=
  t.txLen.toNat = frame.length ∧ t.expLen.toNat = expected ∧ txFrame t = frame ∧
    ∀ j, frame.length ≤ j → readCell t.txbuf j = readCell s.txbuf j

/-- `t` holds this capture where `s` held its own: RXBUF and RX_COUNT (R53), RXBUF past the capture as before. -/
def Captured (r : List Byte) (s t : State) : Prop :=
  t.rxCount.toNat = r.length ∧ rxFrame t = r ∧ ∀ j, r.length ≤ j → readCell t.rxbuf j = readCell s.rxbuf j

/-- The parameters of an exchange command of function code `fc` are valid (R111 to R113). -/
def ValidParameters (fc slave : Byte) (qty : HalfWord) : Prop :=
  (1 ≤ slave.toNat ∧ slave.toNat ≤ 247) ∧ (fc = 0x03#8 → 1 ≤ qty.toNat ∧ qty.toNat ≤ 125) ∧
    (fc = 0x10#8 → 1 ≤ qty.toNat ∧ qty.toNat ≤ 123)

/-- A request is the one the latches stand for: TXBUF[0 .. TX_LEN-1] and EXP_LEN are what the encoder returns (R110, R120). -/
def HoldsRequest (s : State) : Prop :=
  encodeLatched s = some (txFrame s, s.expLen)

/-- The states of every run: the invariant of the exchange controller. -/
structure Inv (s : State) : Prop where
  /-- The buffers and arrays keep their canonical form and their size. -/
  txbufWf : Memory.wf Config.txbufSize s.txbuf = true
  rxbufWf : Memory.wf Config.rxbufSize s.rxbuf = true
  wdataWf : Memory.wf Config.maxWriteQty s.wdata = true
  lWdataWf : Memory.wf Config.maxWriteQty s.lWdata = true
  rdataWf : Memory.wf Config.maxReadQty s.rdata = true
  /-- Lengths stay within the buffers (R43, R44, R38). -/
  txLenBound : s.txLen.toNat ≤ Config.txbufSize
  expLenBound : s.expLen.toNat ≤ Config.rxbufSize
  rxCountBound : s.rxCount.toNat ≤ s.expLen.toNat
  /-- Before completion no result shows (R235). -/
  notDone : done s = false → s.status = .none ∧ s.excCode = 0#8 ∧ s.rxCount = 0#16
  /-- IDLE holds no request (R47, R178). -/
  idleEmpty : s.state = .idle → s.txLen = 0#16 ∧ s.expLen = 0#16
  /-- VALIDATED goes with OK, FAILED with a failure code (R32, R33, R200). -/
  validatedOk : s.state = .validated → s.status = .ok
  failedCode : s.state = .failed → s.status ≠ .none ∧ s.status ≠ .ok
  /-- EXC_CODE is 0 unless STATUS = EXCEPTION_RESPONSE (R34). -/
  excCodeZero : s.status ≠ .exceptionResponse → s.excCode = 0#8
  /-- RDATA_VALID is 1 exactly after a validated 0x03 exchange (R35). -/
  rdataValidIff : s.rdataValid = true ↔ s.state = .validated ∧ s.lFc = 0x03#8
  /-- A request accepted and not rejected is held (R110, R120). -/
  request : s.state ≠ .idle → s.status ≠ .invalidRequest → HoldsRequest s
  /-- What each status records (R201). -/
  invalidInfo : s.status = .invalidRequest → s.txLen = 0#16 ∧ s.expLen = 0#16
  incompleteInfo : s.status = .incompleteResponse → s.rxCount.toNat < s.expLen.toNat
  transportInfo : s.status = .transportError → s.rxCount = 0#16
  fullInfo : s.status = .ok ∨ s.status = .checksumMismatch ∨ s.status = .exceptionResponse ∨ s.status = .echoMismatch →
    s.rxCount = s.expLen
  /-- The settle timer runs only in the settle phase (R45, R167). -/
  settleTimer : s.settleT ≠ 0#32 → s.state = .sent ∧ s.sentPh = .settle

/-- A frame that may stand on the wire: a well-formed request (R2, R75 to R77, R86). -/
def ValidRequest (f : List Byte) : Prop :=
  ∃ i, decode .request f = .ok i ∧ wellFormed i = true

/-- Every frame handed to the channel is a well-formed request. -/
def OnlyValidRequestsSent (s : State) : Prop := ∀ f ∈ s.written, ValidRequest f

/-- The transitions of STATE that R160 allows without reset. -/
def Transition : ExchangeState → ExchangeState → Prop
  | .idle, t => t = .idle ∨ t = .sent ∨ t = .failed
  | .sent, t => t = .sent ∨ t = .awaiting ∨ t = .failed
  | .awaiting, t => t = .awaiting ∨ t = .validated ∨ t = .failed
  | .validated, t => t = .validated ∨ t = .sent ∨ t = .failed ∨ t = .idle
  | .failed, t => t = .failed ∨ t = .sent ∨ t = .idle

/-- `t` runs the same exchange as `s` on the same channel: STATE and the timer it waits on, the latched operands, and the channel's
condition and waiting bytes agree. Everything else may differ: TXBUF past the frame, L_WDATA the exchange does not send, RXBUF, RDATA,
the host's registers, CRC_ACC, OVERRUN, the frames written before, what the host read (R183). -/
structure SameExchange (s t : State) : Prop where
  state : t.state = s.state
  phase : s.state = .sent → t.sentPh = s.sentPh
  settle : s.state = .sent → s.sentPh = .settle → t.settleT = s.settleT
  timeout : s.state = .awaiting → t.timeoutT = s.timeoutT
  fc : t.lFc = s.lFc
  slave : t.lSlave = s.lSlave
  reg : t.lReg = s.lReg
  qty : t.lQty = s.lQty
  value : t.lValue = s.lValue
  settleTime : t.lSettle = s.lSettle
  timeoutTime : t.lTimeout = s.lTimeout
  wdata : s.lFc = 0x10#8 → ∀ k, k < s.lQty.toNat → readCell t.lWdata k = readCell s.lWdata k
  chOpen : t.chOpen = s.chOpen
  inputQueue : t.inputQueue = s.inputQueue

/-- The results of two exchanges agree: STATE and the tuple of R172, RDATA[0 .. Q-1] where RDATA_VALID says that it is a result. -/
structure SameResult (s t : State) : Prop where
  state : t.state = s.state
  status : t.status = s.status
  excCode : t.excCode = s.excCode
  rxCount : t.rxCount = s.rxCount
  rdataValid : t.rdataValid = s.rdataValid
  rdata : s.rdataValid = true → ∀ k, k < s.lQty.toNat → readCell t.rdata k = readCell s.rdata k

/-- The next event asserts RST. -/
def nextIsReset (s : State) : Prop := s.events.head? = some .reset

/-- The next event is a host write to CTRL of command code `c`. -/
def nextIsCommand (c : Byte) (s : State) : Prop :=
  ∃ v, s.events.head? = some (.host (.write 0#10 v)) ∧ low8 v = c

/-- A run of `n` steps that never stops, from a state of every run to another. -/
def RunsSafely (n : Nat) (s : State) : Prop := ∃ t, Host.Core.run core n s = .next t ∧ Inv t

end Sys2Proof
end

