-- ==== Sys2Proof/Certificates/Slice0/Obligations.lean ====
section
/-! DEFINITION. The statements for the provers. Each docstring names the rules it rests on; OBLIGATIONS.json lists them. -/

open Sys2Proof Sys2Proof.Machine

/-! Encoding -/

/-- Decoding what was encoded gives it back, for every well-formed instruction but READ_REGISTER, whose word is that of
READ_REGISTERS (R70 to R90, R175). -/
def Obligations.DecodeEncodeRoundTrip : Prop :=
  ∀ i, wellFormed i = true → i ≠ .readRegister → decode (formatOf i) (encode i) = .ok i

/-- A frame that decodes is a well-formed frame of its format and is exactly the encoding of what it decodes to (R74 to R81). -/
def Obligations.DecodedFramesAreTheirEncoding : Prop :=
  ∀ f bs i, f ≠ .ctrl → decode f bs = .ok i → formatOf i = f ∧ wellFormed i = true ∧ encode i = bs

/-- Words and frames written out from R71, R75 to R81 and 95_test_vectors.md (E2, E5, E8, D2.1, D1.1, D4.1, D3.2) decode to what
they stand for. That the four bytes of a CTRL write stand least significant byte first is the model's order, not the spec's (log 4). -/
def Obligations.WordsOfTheSpecDecode : Prop :=
  decode .ctrl [0x03#8, 0x00#8, 0x00#8, 0x00#8] = .ok .readRegisters ∧
  decode .ctrl [0x10#8, 0xFF#8, 0xFF#8, 0xFF#8] = .ok .writeRegisters ∧
  decode .ctrl [0x2F#8, 0x00#8, 0x00#8, 0x00#8] = .ok .clear ∧
  decode .ctrl [0x55#8, 0x00#8, 0x00#8, 0x00#8] = .ok (.reservedCmd 0x55#8) ∧
  decode .request [0x01#8, 0x03#8, 0x00#8, 0x12#8, 0x00#8, 0x02#8, 0x64#8, 0x0E#8]
    = .ok (.rtuReqReadHolding 1#8 0x0012#16 2#16) ∧
  decode .request [0x01#8, 0x06#8, 0x02#8, 0x3C#8, 0x00#8, 0x01#8, 0x89#8, 0xBE#8]
    = .ok (.rtuReqWriteSingle 1#8 0x023C#16 1#16) ∧
  decode .request [0x01#8, 0x10#8, 0x00#8, 0x12#8, 0x00#8, 0x02#8, 0x04#8, 0x00#8, 0x64#8, 0x00#8, 0x00#8, 0x32#8, 0xA5#8]
    = .ok (.rtuReqWriteMultiple 1#8 0x0012#16 [100#16, 0#16]) ∧
  decode .response [0x01#8, 0x03#8, 0x04#8, 0x00#8, 0x64#8, 0x00#8, 0x00#8, 0xBB#8, 0xEC#8]
    = .ok (.rtuRspReadHolding 1#8 4#8 [100#16, 0#16]) ∧
  decode .response [0x01#8, 0x06#8, 0x02#8, 0x3C#8, 0x00#8, 0x01#8, 0x89#8, 0xBE#8]
    = .ok (.rtuRspWriteSingle 1#8 0x023C#16 1#16) ∧
  decode .response [0x01#8, 0x10#8, 0x00#8, 0x12#8, 0x00#8, 0x02#8, 0xE1#8, 0xCD#8]
    = .ok (.rtuRspWriteMultiple 1#8 0x0012#16 2#16) ∧
  decode .response [0x01#8, 0x83#8, 0x02#8, 0xC0#8, 0xF1#8] = .ok (.rtuRspException 1#8 0x83#8 0x02#8 [])

/-- A CTRL write decodes by its bits [7:0] alone, and it is reserved exactly when these are none of the six assigned codes
(R70, R71, R72). -/
def Obligations.CtrlDecodesByItsLowByte : Prop :=
  (∀ v v' : Word, v.extractLsb' 0 8 = v'.extractLsb' 0 8 → decodeCtrl v = decodeCtrl v') ∧
  (∀ (v : Word) (c : Byte), decodeCtrl v = .reservedCmd c ↔
    c = v.extractLsb' 0 8 ∧ c ∉ [0x03#8, 0x06#8, 0x10#8, 0x20#8, 0x21#8, 0x2F#8])

/-! The step -/

/-- A host write to CTRL runs the instruction its value decodes to, on the state with the event taken off (R23, R70, R161). -/
def Obligations.StepRunsTheCommandWrittenToCtrl : Prop :=
  ∀ (s : State) (v : Word) (rest : List Event), s.events = .host (.write 0x000#10 v) :: rest →
    step s = exec (decodeCtrl v) { s with events := rest }

/-- A well-formed response frame the channel delivers runs as its instruction; any other bytes, corrupt, cut short or noise, are delivered
in the same way (R169). Whatever the bytes, they stand behind those that wait. With no read in progress they wait too (R49). A read in
progress ends: on a closed channel in TRANSPORT_ERROR (decision D16), CH_OPEN looked at when the bytes are delivered
(log 18), every byte kept in the queue (log 17); with EXP_LEN bytes there
with the completion of the first EXP_LEN of them, later bytes staying in the queue (R55, R181, R238); with fewer, once the timeout has
passed, with the completion of what is there (R181; log 7). The form, one event for the bytes and the end of the read, is the model's
(log 6). -/
def Obligations.StepRunsTheResponseDelivered : Prop :=
  (∀ (s : State) (i : Instr) (rest : List Event), formatOf i = .response → wellFormed i = true →
    s.events = .reply (encode i) :: rest → step s = exec i { s with events := rest }) ∧
  (∀ (s : State) (bytes : List Byte) (rest : List Event), s.events = .reply bytes :: rest →
    step s = deliver bytes { s with events := rest } ∧
    (s.state ≠ .awaiting → step s = .next { s with inputQueue := s.inputQueue ++ bytes, events := rest }) ∧
    (s.state = .awaiting → s.chOpen = false → step s = .next
      { s with state := .failed, status := .transportError, inputQueue := s.inputQueue ++ bytes, events := rest }) ∧
    (s.state = .awaiting → s.chOpen = true → s.expLen.toNat ≤ (s.inputQueue ++ bytes).length →
      step s = completeRead ((s.inputQueue ++ bytes).take s.expLen.toNat)
        { s with inputQueue := (s.inputQueue ++ bytes).drop s.expLen.toNat, events := rest }) ∧
    (s.state = .awaiting → s.chOpen = true → (s.inputQueue ++ bytes).length < s.expLen.toNat →
      step s = completeRead (s.inputQueue ++ bytes) { s with inputQueue := [], timeoutT := 0#32, events := rest }))

/-- The step from a state with a table word in front runs the instruction the decoder reads from that word (logs 2 and 3). -/
def Obligations.StepRunsTheTableWord : Prop :=
  ∀ (s : State) (nbits w : Nat) (i : Instr), decodeTableWord nbits w = some i →
    step (s.withFetchWord nbits w) = exec i s

/-- With no exchange in progress the engine's turn changes nothing, and with no event left nothing moves (R220; the event list is
the model's, log 1). -/
def Obligations.QuiescentEngineKeepsItsState : Prop :=
  (∀ (s : State) (a : ChanAnswer) (rest : List Event), busy s = false → s.events = .engine a :: rest →
    step s = .next { s with events := rest }) ∧
  (∀ s : State, s.events = [] → step s = .next s)

/-! CRC generator -/

/-- CRC_INIT, code 0x20, sets CRC_ACC to 0xFFFF and changes nothing else, in every state: STAT and OVERRUN are as before (R105). -/
def Obligations.CrcInitSetsTheAccumulator : Prop :=
  decodeCommand 0x20#8 = .crcInit ∧ ∀ s : State, exec .crcInit s = .next { s with crcAcc := 0xFFFF#16 }

/-- CRC_BYTE, code 0x21, feeds CRC_IN to CRC_ACC: the byte into bits [7:0], then eight bit steps with polynomial 0xA001; nothing
else changes, in every state (R100, R101, R106). -/
def Obligations.CrcByteIsEightBitSteps : Prop :=
  decodeCommand 0x21#8 = .crcByte ∧ ∀ s : State, exec .crcByte s = .next { s with crcAcc :=
    (fun t : HalfWord => if t.getLsbD 0 then (t >>> 1) ^^^ 0xA001#16 else t >>> 1)^[8] (s.crcAcc ^^^ s.crcIn.setWidth 16) }

/-- A stream of CRC_IN writes and CRC_BYTE commands from an accumulator of 0xFFFF leaves crc16 of the bytes, and touches CRC_IN and
CRC_ACC only (R102, R106, R241). -/
def Obligations.CrcByteStreamComputesCrc16 : Prop :=
  ∀ (bs : List Byte) (s : State) (rest : List Event), s.crcAcc = 0xFFFF#16 →
    s.events = (bs.flatMap fun b => [.host (.write 0x005#10 (b.setWidth 32)), .host (.write 0x000#10 0x21#32)]) ++ rest →
    ∃ c, Host.Core.run core (2 * bs.length) s = .next { s with crcIn := c, crcAcc := crc16 bs, events := rest }

/-- A body followed by its own CRC, low byte first, has CRC 0; so has every frame that passes the check of R104 (R107). -/
def Obligations.CrcResidueIsZero : Prop :=
  (∀ m : List Byte, crc16 (m ++ [(crc16 m).extractLsb' 0 8, (crc16 m).extractLsb' 8 8]) = 0#16) ∧
  (∀ f : List Byte, 2 ≤ f.length → crcOk f = true → crc16 f = 0#16)

/-- Only reset and the two CRC commands change CRC_ACC: no exchange, no other command and no channel move does (R39, R108). -/
def Obligations.OnlyCrcCommandsWriteTheAccumulator : Prop :=
  ∀ s t : State, step s = .next t → ¬ nextIsReset s → ¬ nextIsCommand 0x20#8 s → ¬ nextIsCommand 0x21#8 s →
    t.crcAcc = s.crcAcc

/-! Encoder -/

/-- The encoder returns INVALID exactly for a slave outside 1 to 247, or a quantity outside 1 to 125 for 0x03 or 1 to 123 for
0x10 (R111, R112, R113). -/
def Obligations.EncoderRejectsExactlyInvalidParameters : Prop :=
  ∀ (fc slave : Byte) (reg qty value : HalfWord) (wd : Memory 16), fc = 0x03#8 ∨ fc = 0x06#8 ∨ fc = 0x10#8 →
    (encodeRequest fc slave reg qty value wd = none ↔
      (slave.toNat < 1 ∨ 247 < slave.toNat) ∨ (fc = 0x03#8 ∧ (qty.toNat < 1 ∨ 125 < qty.toNat)) ∨
        (fc = 0x10#8 ∧ (qty.toNat < 1 ∨ 123 < qty.toNat)))

/-- The expected response length of every request built: 5 + 2Q for 0x03, 8 for 0x06 and 0x10, at most 255 (R117). -/
def Obligations.ExpectedLengthByFunctionCode : Prop :=
  ∀ (fc slave : Byte) (reg qty value : HalfWord) (wd : Memory 16) (f : List Byte) (e : HalfWord),
    encodeRequest fc slave reg qty value wd = some (f, e) →
      (fc = 0x03#8 → e.toNat = 5 + 2 * qty.toNat) ∧ (fc = 0x06#8 → e.toNat = 8) ∧ (fc = 0x10#8 → e.toNat = 8) ∧
        7 ≤ e.toNat ∧ e.toNat ≤ 255

/-- Every frame the encoder returns carries the CRC of its other bytes, low byte first, so a copy of it passes the CRC check (R103,
R104, R121). -/
def Obligations.EncodedFramesCarryTheirCrc : Prop :=
  ∀ (fc slave : Byte) (reg qty value : HalfWord) (wd : Memory 16) (f : List Byte) (e : HalfWord),
    encodeRequest fc slave reg qty value wd = some (f, e) →
      (∃ lo hi, f = f.take (f.length - 2) ++ [lo, hi] ∧ crc16 (f.take (f.length - 2)) = hi ++ lo) ∧ crcOk f = true

/-- RTU_REQ_READ_HOLDING with valid operands completes: the 8 bytes of R75 in TXBUF, TX_LEN 8, EXP_LEN 5 + 2Q, nothing else
changed (R75, R110, R114). That the row runs as one call of the encoder, with no latching, no clearing of results and no BUSY check, is
the model's form (log 5). -/
def Obligations.ReadRequestIsBuilt : Prop :=
  ∀ (slave : Byte) (start qty : HalfWord) (s : State), ValidParameters 0x03#8 slave qty →
    Memory.wf Config.txbufSize s.txbuf = true →
    let m := [slave, 0x03#8, hi8 start, lo8 start, hi8 qty, lo8 qty]
    ∃ t, exec (.rtuReqReadHolding slave start qty) s = .next t ∧
      Recorded (m ++ [lo8 (crc16 m), hi8 (crc16 m)]) (5 + 2 * qty.toNat) s t ∧
      t = { s with txbuf := t.txbuf, txLen := 8#16, expLen := t.expLen }

/-- RTU_REQ_WRITE_SINGLE with a valid slave completes: the 8 bytes of R76 in TXBUF, TX_LEN 8, EXP_LEN 8, nothing else changed
(R76, R110, R115). That the row runs as one call of the encoder, with no latching, no clearing of results and no BUSY check, is the
model's form (log 5). -/
def Obligations.WriteSingleRequestIsBuilt : Prop :=
  ∀ (slave : Byte) (reg value : HalfWord) (s : State), 1 ≤ slave.toNat → slave.toNat ≤ 247 →
    Memory.wf Config.txbufSize s.txbuf = true →
    let m := [slave, 0x06#8, hi8 reg, lo8 reg, hi8 value, lo8 value]
    ∃ t, exec (.rtuReqWriteSingle slave reg value) s = .next t ∧
      Recorded (m ++ [lo8 (crc16 m), hi8 (crc16 m)]) 8 s t ∧
      t = { s with txbuf := t.txbuf, txLen := 8#16, expLen := 8#16 }

/-- RTU_REQ_WRITE_MULTIPLE with valid operands completes: the 9 + 2Q bytes of R77 in TXBUF with byte count 2Q and the values high
byte first, EXP_LEN 8, nothing else changed (R77, R110, R116). That the row runs as one call of the encoder, with no latching, no
clearing of results and no BUSY check, is the model's form (log 5). -/
def Obligations.WriteMultipleRequestIsBuilt : Prop :=
  ∀ (slave : Byte) (start : HalfWord) (values : List HalfWord) (s : State), 1 ≤ slave.toNat → slave.toNat ≤ 247 →
    1 ≤ values.length → values.length ≤ 123 → Memory.wf Config.txbufSize s.txbuf = true →
    let q := BitVec.ofNat 16 values.length
    let m := [slave, 0x10#8, hi8 start, lo8 start, hi8 q, lo8 q, BitVec.ofNat 8 (2 * values.length)] ++
      values.flatMap fun v => [hi8 v, lo8 v]
    ∃ t, exec (.rtuReqWriteMultiple slave start values) s = .next t ∧
      Recorded (m ++ [lo8 (crc16 m), hi8 (crc16 m)]) 8 s t ∧ t.txLen.toNat = 9 + 2 * values.length ∧
      t = { s with txbuf := t.txbuf, txLen := t.txLen, expLen := 8#16 }

/-- A request with invalid operands ends in INVALID_REQUEST with TX_LEN and EXP_LEN 0: TXBUF, the channel and the timers are
untouched, for each of the three requests (R118, R164). That a request row is an instruction of its own, in every state, also BUSY,
with EXC_CODE, RDATA_VALID and RX_COUNT not cleared, is the model's form (log 5). -/
def Obligations.InvalidRequestsTouchNothingElse : Prop :=
  ∀ s : State,
    let rejected : State := { s with state := .failed, status := .invalidRequest, txLen := 0#16, expLen := 0#16 }
    (∀ slave start qty, ¬ ValidParameters 0x03#8 slave qty → exec (.rtuReqReadHolding slave start qty) s = .next rejected) ∧
    (∀ slave reg value, ¬ (1 ≤ slave.toNat ∧ slave.toNat ≤ 247) →
      exec (.rtuReqWriteSingle slave reg value) s = .next rejected) ∧
    (∀ slave start (values : List HalfWord), ¬ ((1 ≤ slave.toNat ∧ slave.toNat ≤ 247) ∧ 1 ≤ values.length ∧ values.length ≤ 123) →
      exec (.rtuReqWriteMultiple slave start values) s = .next rejected)

/-! Host commands -/

/-- READ_REGISTERS with BUSY = 0 and valid parameters completes: operands latched, results cleared, the request of R75 in TXBUF,
STATE = SENT, and nothing else changed (R162, R163, R174). -/
def Obligations.ReadRegistersIsAccepted : Prop :=
  ∀ s : State, busy s = false → ValidParameters 0x03#8 s.pSlave s.pQty → Memory.wf Config.txbufSize s.txbuf = true →
    let m := [s.pSlave, 0x03#8, hi8 s.pReg, lo8 s.pReg, hi8 s.pQty, lo8 s.pQty]
    ∃ t, exec .readRegisters s = .next t ∧
      Recorded (m ++ [lo8 (crc16 m), hi8 (crc16 m)]) (5 + 2 * s.pQty.toNat) s t ∧
      t = { s with state := .sent, sentPh := .write, status := .none, excCode := 0#8, rdataValid := false, rxCount := 0#16,
                   lFc := 0x03#8, lSlave := s.pSlave, lReg := s.pReg, lQty := s.pQty, lValue := s.pValue,
                   lSettle := s.cfgSettle, lTimeout := s.cfgTimeout, txbuf := t.txbuf, txLen := 8#16, expLen := t.expLen }

/-- READ_REGISTER with BUSY = 0 and a valid slave completes: P_QTY ← 1, then READ_REGISTERS with Q = 1, EXP_LEN 7; and in every state
it does what its expansion does, a write of 1 to P_QTY and a write of 0x03 to CTRL (R88, R175). While BUSY too: that P_QTY is then stored
though the CTRL write is dropped is the model's reading (log 9). -/
def Obligations.ReadRegisterIsAccepted : Prop :=
  (∀ (s : State) (rest : List Event),
    s.events = .host (.write 0x003#10 1#32) :: .host (.write 0x000#10 0x03#32) :: rest →
    Host.Core.run core 2 s = exec .readRegister { s with events := rest }) ∧
  ∀ s : State, busy s = false → 1 ≤ s.pSlave.toNat → s.pSlave.toNat ≤ 247 → Memory.wf Config.txbufSize s.txbuf = true →
    let m := [s.pSlave, 0x03#8, hi8 s.pReg, lo8 s.pReg, 0x00#8, 0x01#8]
    ∃ t, exec .readRegister s = .next t ∧ Recorded (m ++ [lo8 (crc16 m), hi8 (crc16 m)]) 7 s t ∧
      t = { s with pQty := 1#16, state := .sent, sentPh := .write, status := .none, excCode := 0#8, rdataValid := false,
                   rxCount := 0#16, lFc := 0x03#8, lSlave := s.pSlave, lReg := s.pReg, lQty := 1#16, lValue := s.pValue,
                   lSettle := s.cfgSettle, lTimeout := s.cfgTimeout, txbuf := t.txbuf, txLen := 8#16, expLen := 7#16 }

/-- WRITE_REGISTER with BUSY = 0 and a valid slave completes: operands latched, results cleared, the request of R76 in TXBUF, EXP_LEN
8, STATE = SENT, and nothing else changed, whatever P_QTY holds (R162, R163, R176). -/
def Obligations.WriteRegisterIsAccepted : Prop :=
  ∀ s : State, busy s = false → 1 ≤ s.pSlave.toNat → s.pSlave.toNat ≤ 247 → Memory.wf Config.txbufSize s.txbuf = true →
    let m := [s.pSlave, 0x06#8, hi8 s.pReg, lo8 s.pReg, hi8 s.pValue, lo8 s.pValue]
    ∃ t, exec .writeRegister s = .next t ∧ Recorded (m ++ [lo8 (crc16 m), hi8 (crc16 m)]) 8 s t ∧
      t = { s with state := .sent, sentPh := .write, status := .none, excCode := 0#8, rdataValid := false, rxCount := 0#16,
                   lFc := 0x06#8, lSlave := s.pSlave, lReg := s.pReg, lQty := s.pQty, lValue := s.pValue,
                   lSettle := s.cfgSettle, lTimeout := s.cfgTimeout, txbuf := t.txbuf, txLen := 8#16, expLen := 8#16 }

/-- WRITE_REGISTERS with BUSY = 0 and valid parameters completes: operands and WDATA[0 .. Q-1] latched, results cleared, the request
of R77 in TXBUF, EXP_LEN 8, STATE = SENT, and nothing else changed (R73, R162, R163, R177). -/
def Obligations.WriteRegistersIsAccepted : Prop :=
  ∀ s : State, busy s = false → ValidParameters 0x10#8 s.pSlave s.pQty → Memory.wf Config.txbufSize s.txbuf = true →
    Memory.wf Config.maxWriteQty s.lWdata = true →
    let values := (List.range s.pQty.toNat).map (readCell s.wdata)
    let m := [s.pSlave, 0x10#8, hi8 s.pReg, lo8 s.pReg, hi8 s.pQty, lo8 s.pQty, BitVec.ofNat 8 (2 * s.pQty.toNat)] ++
      values.flatMap fun v => [hi8 v, lo8 v]
    ∃ t, exec .writeRegisters s = .next t ∧ Recorded (m ++ [lo8 (crc16 m), hi8 (crc16 m)]) 8 s t ∧
      t.txLen.toNat = 9 + 2 * s.pQty.toNat ∧
      (∀ i, readCell t.lWdata i = if i < s.pQty.toNat then readCell s.wdata i else readCell s.lWdata i) ∧
      t = { s with state := .sent, sentPh := .write, status := .none, excCode := 0#8, rdataValid := false, rxCount := 0#16,
                   lFc := 0x10#8, lSlave := s.pSlave, lReg := s.pReg, lQty := s.pQty, lValue := s.pValue, lWdata := t.lWdata,
                   lSettle := s.cfgSettle, lTimeout := s.cfgTimeout, txbuf := t.txbuf, txLen := t.txLen, expLen := 8#16 }

/-- An exchange command with BUSY = 0 and invalid parameters ends FAILED with INVALID_REQUEST: results cleared, TX_LEN = EXP_LEN = 0,
operands latched (WDATA[0 .. Q-1] only for 0x10 with 1 ≤ Q ≤ 123, the other entries of L_WDATA as before), and neither TXBUF, the
channel nor the timers touched. READ_REGISTER does so with Q = 1, which it stores in P_QTY (R73, R162, R163, R164, R175, R208). -/
def Obligations.InvalidParametersEndTheCommand : Prop :=
  ∀ (s : State) (i : Instr) (fc : Byte) (q : HalfWord), (i, fc, q) ∈ [(Instr.readRegisters, 0x03#8, s.pQty),
      (.readRegister, 0x03#8, 1#16), (.writeRegister, 0x06#8, s.pQty), (.writeRegisters, 0x10#8, s.pQty)] →
    busy s = false → ¬ ValidParameters fc s.pSlave q → Memory.wf Config.maxWriteQty s.lWdata = true →
    ∃ t, exec i s = .next t ∧
      (∀ k, readCell t.lWdata k =
        if fc = 0x10#8 ∧ 1 ≤ q.toNat ∧ q.toNat ≤ 123 ∧ k < q.toNat then readCell s.wdata k else readCell s.lWdata k) ∧
      t = { s with pQty := q, state := .failed, status := .invalidRequest, excCode := 0#8, rdataValid := false, rxCount := 0#16,
                   txLen := 0#16, expLen := 0#16, lFc := fc, lSlave := s.pSlave, lReg := s.pReg, lQty := q, lValue := s.pValue,
                   lWdata := t.lWdata, lSettle := s.cfgSettle, lTimeout := s.cfgTimeout }

/-- While BUSY = 1 every command but the two CRC commands is dropped and sets OVERRUN. Nothing else changes, but for READ_REGISTER: its
own write of 1 to P_QTY is stored before its CTRL write is dropped, which is the model's reading of the pseudo-command (log 9) (R36,
R161, R175, R209). -/
def Obligations.BusyEngineDropsCommands : Prop :=
  ∀ s : State, busy s = true →
    (∀ i ∈ [Instr.readRegisters, .writeRegister, .writeRegisters, .clear], exec i s = .next { s with overrun := true }) ∧
    (∀ c, exec (.reservedCmd c) s = .next { s with overrun := true }) ∧
    exec .readRegister s = .next { s with pQty := 1#16, overrun := true }

/-- CLEAR, code 0x2F, with BUSY = 0 completes: STATE = IDLE and the result registers at their reset values; RDATA, WDATA, the parameters, the
configuration, CRC_ACC and the channel are unchanged; with BUSY = 1 it sets OVERRUN only (R178). -/
def Obligations.ClearReturnsToIdle : Prop :=
  decodeCommand 0x2F#8 = .clear ∧ ∀ s : State, (busy s = false → exec .clear s = .next
      { s with state := .idle, status := .none, excCode := 0#8, rdataValid := false, overrun := false, rxCount := 0#16,
               expLen := 0#16, txLen := 0#16 }) ∧
    (busy s = true → exec .clear s = .next { s with overrun := true })

/-- A reserved command code with BUSY = 0 completes as the rule says: results cleared, TX_LEN = EXP_LEN = 0, FAILED with
INVALID_REQUEST; with BUSY = 1 it sets OVERRUN only. The channel and CRC_ACC are never touched (R72, R179). -/
def Obligations.ReservedCodeEndsInvalid : Prop :=
  (∀ c : Byte, c ∉ [0x03#8, 0x06#8, 0x10#8, 0x20#8, 0x21#8, 0x2F#8] → decodeCommand c = .reservedCmd c) ∧
  ∀ (s : State) (c : Byte), (busy s = false → exec (.reservedCmd c) s = .next
      { s with state := .failed, status := .invalidRequest, excCode := 0#8, rdataValid := false, rxCount := 0#16,
               txLen := 0#16, expLen := 0#16 }) ∧
    (busy s = true → exec (.reservedCmd c) s = .next { s with overrun := true })

/-- A host write to any register but CTRL changes only a parameter, configuration, CRC_IN or WDATA register: the latches, the request,
the exchange's state and its results stay, also while BUSY (R42, R242). -/
def Obligations.HostWritesLeaveTheExchange : Prop :=
  ∀ (s : State) (idx : RegIndex) (v : Word) (rest : List Event), idx ≠ 0x000#10 → s.events = .host (.write idx v) :: rest →
    ∃ ps pr pq pv ci cs ct wd, step s = .next
      { s with pSlave := ps, pReg := pr, pQty := pq, pValue := pv, crcIn := ci, cfgSettle := cs, cfgTimeout := ct, wdata := wd,
               events := rest }

/-! The engine's own steps -/

/-- The write step. With CH_OPEN = 0 it raises TRANSPORT_ERROR and no ChanWrite is performed. With CH_OPEN = 1 it hands TXBUF[0 ..
TX_LEN-1] to the channel once; the answer TX_LEN leads to SETTLE with SETTLE_T = L_SETTLE, every other answer to TRANSPORT_ERROR
(R54, R165, R166). -/
def Obligations.WriteStepSendsTheWholeFrame : Prop :=
  ∀ (s : State) (a : ChanAnswer) (rest : List Event), s.state = .sent → s.sentPh = .write → s.events = .engine a :: rest →
    (s.chOpen = false → step s = .next { s with state := .failed, status := .transportError, events := rest }) ∧
    (s.chOpen = true → s.txLen.toNat ≤ Config.txbufSize → a = .done s.txLen.toNat → step s = .next
      { s with written := s.written ++ [txFrame s], sentPh := .settle, settleT := s.lSettle, events := rest }) ∧
    (s.chOpen = true → s.txLen.toNat ≤ Config.txbufSize → a ≠ .done s.txLen.toNat → step s = .next
      { s with written := s.written ++ [txFrame s], state := .failed, status := .transportError, events := rest })

/-- The settle delay: SETTLE_T counts down with time and the engine does nothing until it is 0; then STATE = AWAITING and TIMEOUT_T =
L_TIMEOUT (R167, R168, R216; that time is an event, and that TIMEOUT_T counts in this phase too, is the model's, log 7). -/
def Obligations.SettleDelayPrecedesTheRead : Prop :=
  ∀ (s : State) (rest : List Event), s.state = .sent → s.sentPh = .settle →
    (∀ a, s.events = .engine a :: rest → s.settleT ≠ 0#32 → step s = .next { s with events := rest }) ∧
    (∀ a, s.events = .engine a :: rest → s.settleT = 0#32 →
      step s = .next { s with state := .awaiting, timeoutT := s.lTimeout, events := rest }) ∧
    (∀ n, s.events = .elapse n :: rest → ∃ t, step s = .next t ∧ t.settleT.toNat = s.settleT.toNat - n ∧
      t.timeoutT.toNat = s.timeoutT.toNat - n ∧ t = { s with settleT := t.settleT, timeoutT := t.timeoutT, events := rest })

/-- In AWAITING an ERR, or a closed channel, ends the exchange in TRANSPORT_ERROR; RX_COUNT, RXBUF and RDATA are untouched (R169,
R207, decision D16). That every waiting byte stays in the channel's input queue (log 17), and that CH_OPEN counts at the moment the read
is answered, whatever it was at the issue and whatever waits (log 18), is the model's choice. -/
def Obligations.FailedReadIsTransportError : Prop :=
  ∀ (s : State) (a : ChanAnswer) (rest : List Event), s.state = .awaiting → a = .err ∨ s.chOpen = false →
    s.events = .engine a :: rest →
    step s = .next { s with state := .failed, status := .transportError, events := rest }

/-- The read ends at EXP_LEN bytes or when TIMEOUT_T is 0, and not before: it then captures the first EXP_LEN bytes at most, the rest
stay in the channel's queue, and the exchange is DONE with the validator's verdict on the request and that capture: VALIDATED and OK, or
FAILED with the failure's code. The step is the read completion of those bytes (R55, R169, R170, R181, R238; log 8; CH_OPEN
counts at this step only, log 18). -/
def Obligations.ReadEndsAtLengthOrTimeout : Prop :=
  ∀ (s : State) (n : Nat) (rest : List Event), Inv s → s.state = .awaiting → s.chOpen = true →
    s.events = .engine (.done n) :: rest →
    (s.expLen.toNat ≤ s.inputQueue.length ∨ s.timeoutT = 0#32 →
      step s = completeRead (s.inputQueue.take s.expLen.toNat)
        { s with inputQueue := s.inputQueue.drop s.expLen.toNat, events := rest } ∧
      ∃ t v, step s = .next t ∧ done t = true ∧ Captured (s.inputQueue.take s.expLen.toNat) s t ∧
        t.inputQueue = s.inputQueue.drop s.expLen.toNat ∧
        validate (txFrame s) s.expLen.toNat (s.inputQueue.take s.expLen.toNat) = some v ∧
        (∀ values, v = .ok values → t.state = .validated ∧ t.status = .ok) ∧
        (∀ st info, v = .fail st info → t.state = .failed ∧ t.status = st)) ∧
    (s.inputQueue.length < s.expLen.toNat → s.timeoutT ≠ 0#32 → step s = .next { s with events := rest })

/-- Read completion records the validator's verdict on the request and the capture: OK as VALIDATED, for a read with RDATA[0 .. Q-1]
and RDATA_VALID; a failure as FAILED with its code, EXC_CODE only for EXCEPTION_RESPONSE, its byte 2, no RDATA entry written (R134,
R170, R171, R203, R141). -/
def Obligations.CompletionRecordsTheVerdict : Prop :=
  ∀ (s : State) (r : List Byte), Inv s → s.state = .awaiting → r.length ≤ s.expLen.toNat →
    ∃ t v, completeRead r s = .next t ∧ validate (txFrame s) s.expLen.toNat r = some v ∧ Captured r s t ∧
      (∀ values, v = .ok values →
        (∀ i, readCell t.rdata i = if i < values.length then values.getD i 0#16 else readCell s.rdata i) ∧
        (s.lFc = 0x03#8 → values.length = s.lQty.toNat) ∧
        t = { s with state := .validated, status := .ok, rdataValid := decide (s.lFc = 0x03#8), rdata := t.rdata,
                     rxbuf := t.rxbuf, rxCount := t.rxCount }) ∧
      (∀ st info, v = .fail st info →
        t = { s with state := .failed, status := st, excCode := if st = .exceptionResponse then byteAt r 2 else 0#8,
                     rxbuf := t.rxbuf, rxCount := t.rxCount })

/-! Validator -/

/-- The validator's order: refused above the expected length, then length, CRC, exception flag, and the echo or header; the first
that fails decides, with its info: n for the length, byte 2 for the exception flag, none otherwise (R131, R132, R133, R134, R135, R136,
R137, R142, R210). Every capture, expected length and request is covered, also those below R131's 7 and 8 bytes, where a byte past the
end reads 0 (the model's, log 14). -/
def Obligations.ValidatorChecksInOrder : Prop :=
  ∀ (req f : List Byte) (exp : Nat),
    (exp < f.length → validate req exp f = none) ∧
    (f.length < exp → validate req exp f = some (.fail .incompleteResponse (.count f.length))) ∧
    (f.length = exp → crcOk f = false → validate req exp f = some (.fail .checksumMismatch .none)) ∧
    (f.length = exp → crcOk f = true → (byteAt f 1).getLsbD 7 = true →
      validate req exp f = some (.fail .exceptionResponse (.code (byteAt f 2)))) ∧
    (f.length = exp → crcOk f = true → (byteAt f 1).getLsbD 7 = false → byteAt req 1 = 0x06#8 ∨ byteAt req 1 = 0x10#8 →
      validate req exp f = some (if f.take 6 = req.take 6 then .ok [] else .fail .echoMismatch .none)) ∧
    (f.length = exp → crcOk f = true → (byteAt f 1).getLsbD 7 = false → byteAt req 1 = 0x03#8 →
      byteAt f 0 ≠ byteAt req 0 ∨ byteAt f 1 ≠ byteAt req 1 → validate req exp f = some (.fail .echoMismatch .none))

/-- The reply to a 0x03 request from the slave asked, of the expected length, decodes to its values in wire order whatever its byte
count says; from another slave it is an ECHO_MISMATCH (R137, R138, R139, R140). -/
def Obligations.ReadReplyDecodesToItsValues : Prop :=
  ∀ (slave from_ count : Byte) (start qty : HalfWord) (values : List HalfWord), values.length = qty.toNat →
    1 ≤ qty.toNat → qty.toNat ≤ 125 →
    validate (readRequestFrame slave start qty) (5 + 2 * qty.toNat) (readReplyFrame from_ count values) =
      some (if from_ = slave then .ok values else .fail .echoMismatch .none)

/-- The reply to a 0x06 or 0x10 request is accepted exactly when every echoed field is the one sent; a reply of the other write
function code is an ECHO_MISMATCH (R135, R136). -/
def Obligations.WriteEchoMustMatchExactly : Prop :=
  ∀ (slave slave' : Byte) (reg reg' x x' : HalfWord) (values : List HalfWord),
    validate (writeSingleFrame slave reg x) 8 (writeSingleFrame slave' reg' x') =
      some (if slave' = slave ∧ reg' = reg ∧ x' = x then .ok [] else .fail .echoMismatch .none) ∧
    validate (writeSingleFrame slave reg x) 8 (writeMultipleReplyFrame slave' reg' x') = some (.fail .echoMismatch .none) ∧
    validate (writeMultipleFrame slave reg values) 8 (writeMultipleReplyFrame slave' reg' x') =
      some (if slave' = slave ∧ reg' = reg ∧ x' = BitVec.ofNat 16 values.length then .ok [] else .fail .echoMismatch .none) ∧
    validate (writeMultipleFrame slave reg values) 8 (writeSingleFrame slave' reg' x') = some (.fail .echoMismatch .none)

/-- An exception frame of the expected length gives EXCEPTION_RESPONSE with its code, whatever its address and bits 6 to 0 of its
function code; a shorter one, as the 5-byte reply to every request, gives INCOMPLETE_RESPONSE with its
length (R132, R134, R243, C4). -/
def Obligations.ExceptionFrameIsJudgedByLength : Prop :=
  ∀ (req : List Byte) (exp : Nat) (slave fc code : Byte) (pad : List Byte), fc.getLsbD 7 = true →
    (5 + pad.length = exp → validate req exp (exceptionFrame slave fc code pad) = some (.fail .exceptionResponse (.code code))) ∧
    (5 + pad.length < exp → validate req exp (exceptionFrame slave fc code pad) = some (.fail .incompleteResponse (.count (5 + pad.length))))

/-! Response frames run as instructions (the form is the model's, log 6) -/

/-- RTU_RSP_READ_HOLDING answering a 0x03 read of as many values, from the slave asked, completes: VALIDATED, OK, RDATA[0 .. Q-1] the
values, RDATA_VALID, RX_COUNT = EXP_LEN; from another slave it completes as ECHO_MISMATCH with RDATA untouched (R137, R139, R171; log 6; CH_OPEN counts at this
moment, log 18). -/
def Obligations.ReadReplyCompletesTheRead : Prop :=
  ∀ (s : State) (slave count : Byte) (values : List HalfWord), Inv s → s.state = .awaiting → s.chOpen = true →
    s.inputQueue = [] → s.lFc = 0x03#8 → values.length = s.lQty.toNat →
    ∃ t, exec (.rtuRspReadHolding slave count values) s = .next t ∧ Captured (readReplyFrame slave count values) s t ∧
      (slave = s.lSlave →
        (∀ i, readCell t.rdata i = if i < values.length then values.getD i 0#16 else readCell s.rdata i) ∧
        t = { s with state := .validated, status := .ok, rdataValid := true, rdata := t.rdata, rxbuf := t.rxbuf,
                     rxCount := s.expLen }) ∧
      (slave ≠ s.lSlave →
        t = { s with state := .failed, status := .echoMismatch, rxbuf := t.rxbuf, rxCount := s.expLen })

/-- RTU_RSP_WRITE_SINGLE answering a 0x06 exchange completes: VALIDATED, OK when slave, register and value are those sent, FAILED,
ECHO_MISMATCH otherwise; RDATA and RDATA_VALID untouched (R135, R171; log 6; CH_OPEN counts at this
moment, log 18). -/
def Obligations.WriteSingleReplyCompletesTheExchange : Prop :=
  ∀ (s : State) (slave : Byte) (reg value : HalfWord), Inv s → s.state = .awaiting → s.chOpen = true →
    s.inputQueue = [] → s.lFc = 0x06#8 →
    ∃ t, exec (.rtuRspWriteSingle slave reg value) s = .next t ∧ Captured (writeSingleFrame slave reg value) s t ∧
      (slave = s.lSlave ∧ reg = s.lReg ∧ value = s.lValue →
        t = { s with state := .validated, status := .ok, rxbuf := t.rxbuf, rxCount := 8#16 }) ∧
      (¬ (slave = s.lSlave ∧ reg = s.lReg ∧ value = s.lValue) →
        t = { s with state := .failed, status := .echoMismatch, rxbuf := t.rxbuf, rxCount := 8#16 })

/-- RTU_RSP_WRITE_MULTIPLE answering a 0x10 exchange completes: VALIDATED, OK when slave, start and quantity are those sent, FAILED,
ECHO_MISMATCH otherwise; RDATA and RDATA_VALID untouched (R136, R171; log 6; CH_OPEN counts at this
moment, log 18). -/
def Obligations.WriteMultipleReplyCompletesTheExchange : Prop :=
  ∀ (s : State) (slave : Byte) (start qty : HalfWord), Inv s → s.state = .awaiting → s.chOpen = true →
    s.inputQueue = [] → s.lFc = 0x10#8 →
    ∃ t, exec (.rtuRspWriteMultiple slave start qty) s = .next t ∧ Captured (writeMultipleReplyFrame slave start qty) s t ∧
      (slave = s.lSlave ∧ start = s.lReg ∧ qty = s.lQty →
        t = { s with state := .validated, status := .ok, rxbuf := t.rxbuf, rxCount := 8#16 }) ∧
      (¬ (slave = s.lSlave ∧ start = s.lReg ∧ qty = s.lQty) →
        t = { s with state := .failed, status := .echoMismatch, rxbuf := t.rxbuf, rxCount := 8#16 })

/-- RTU_RSP_EXCEPTION answering a read completes: of the expected length as EXCEPTION_RESPONSE with EXC_CODE its byte 2, shorter as
INCOMPLETE_RESPONSE with RX_COUNT its length once the timeout has passed; RDATA untouched (R134, R171, R181, R243; log 6, log 7; CH_OPEN counts at this
moment, log 18). -/
def Obligations.ExceptionReplyCompletesTheExchange : Prop :=
  ∀ (s : State) (slave fc code : Byte) (pad : List Byte), Inv s → s.state = .awaiting → s.chOpen = true →
    s.inputQueue = [] → fc.getLsbD 7 = true → 5 + pad.length ≤ s.expLen.toNat →
    ∃ t, exec (.rtuRspException slave fc code pad) s = .next t ∧ Captured (exceptionFrame slave fc code pad) s t ∧
      (5 + pad.length = s.expLen.toNat →
        t = { s with state := .failed, status := .exceptionResponse, excCode := code, rxbuf := t.rxbuf, rxCount := s.expLen }) ∧
      (5 + pad.length < s.expLen.toNat →
        t = { s with state := .failed, status := .incompleteResponse, timeoutT := 0#32, rxbuf := t.rxbuf,
                     rxCount := t.rxCount })

/-- With no read in progress a response frame changes nothing but the channel's input queue, where its bytes wait (R49, R238; log 6). In
every state the moves that are not the engine's or the host's change their own piece of state and nothing else: bytes that arrive stand
in order behind those that wait (R49, R55), bytes taken away by other means are the oldest (R238, R240, log 17), CH_OPEN takes the
channel's value (R46), and time counts both timers down (R45, R216, log 7). That each is an event of its own is the model's (log 1). -/
def Obligations.RepliesOutsideAReadWait : Prop :=
  (∀ (s : State) (i : Instr), formatOf i = .response → s.state ≠ .awaiting →
    exec i s = .next { s with inputQueue := s.inputQueue ++ encode i }) ∧
  ∀ (s : State) (rest : List Event),
    (∀ bytes, s.events = .arrive bytes :: rest → step s = .next { s with inputQueue := s.inputQueue ++ bytes, events := rest }) ∧
    (∀ n, s.events = .drain n :: rest → step s = .next { s with inputQueue := s.inputQueue.drop n, events := rest }) ∧
    (∀ b, s.events = .channelOpen b :: rest → step s = .next { s with chOpen := b, events := rest }) ∧
    (∀ n, s.events = .elapse n :: rest → ∃ t, step s = .next t ∧ t.settleT.toNat = s.settleT.toNat - n ∧
      t.timeoutT.toNat = s.timeoutT.toNat - n ∧ t = { s with settleT := t.settleT, timeoutT := t.timeoutT, events := rest })

/-! Host registers -/

/-- A host write to a register other than CTRL reads back cut to its field: P_SLAVE and CRC_IN to 8 bits, P_REG, P_QTY, P_VALUE and every
WDATA[i] to 16, CFG_SETTLE and CFG_TIMEOUT whole; no other register changes its value (R22, R24 to R30, R40). -/
def Obligations.WritableRegistersReadBack : Prop :=
  ∀ (s : State) (idx : RegIndex) (v : Word) (rest : List Event), idx ≠ 0x000#10 → Memory.wf Config.maxWriteQty s.wdata = true →
    s.events = .host (.write idx v) :: rest →
    ∃ t, step s = .next t ∧
      (idx ∈ [0x001#10, 0x005#10] → readReg t (hostReg idx) = v &&& 0xFF#32) ∧
      (idx ∈ [0x002#10, 0x003#10, 0x004#10] → readReg t (hostReg idx) = v &&& 0xFFFF#32) ∧
      (idx ∈ [0x006#10, 0x007#10] → readReg t (hostReg idx) = v) ∧
      (0x100 ≤ idx.toNat → idx.toNat < 0x100 + 123 → readReg t (hostReg idx) = v &&& 0xFFFF#32) ∧
      (∀ idx' : RegIndex, idx' ≠ idx → readReg t (hostReg idx') = readReg s (hostReg idx'))

/-- A write to a read-only or unmapped index is ignored; CTRL and every unmapped index read 0 (R22, R23, R31). -/
def Obligations.ReadOnlyAndUnmappedIgnoreWrites : Prop :=
  ∀ (s : State) (idx : RegIndex) (rest : List Event),
    (∀ v, (8 ≤ idx.toNat ∧ idx.toNat < 0x100) ∨ 0x17B ≤ idx.toNat → s.events = .host (.write idx v) :: rest →
      step s = .next { s with events := rest }) ∧
    (idx.toNat = 0 ∨ (0x0D ≤ idx.toNat ∧ idx.toNat < 0x100) ∨ (0x17B ≤ idx.toNat ∧ idx.toNat < 0x200) ∨ 0x27D ≤ idx.toNat →
      s.events = .host (.read idx) :: rest → step s = .next { s with hostData := 0#32, events := rest })

/-- A host read returns the register at its index and has no other effect: P_SLAVE, P_REG, P_QTY, P_VALUE, CRC_IN, CFG_SETTLE, CFG_TIMEOUT,
STAT, RX_COUNT, CRC_ACC, EXP_LEN, TX_LEN, WDATA[i] and RDATA[i] (R22, R24, R25, R26, R27, R28, R29, R30, R40, R41, R51). -/
def Obligations.HostReadsHaveNoOtherEffect : Prop :=
  ∀ (s : State) (idx : RegIndex) (rest : List Event), s.events = .host (.read idx) :: rest →
    ∃ d, step s = .next { s with hostData := d, events := rest } ∧ d = readReg s (hostReg idx) ∧
      (idx = 0x001#10 → d.toNat = s.pSlave.toNat) ∧ (idx = 0x002#10 → d.toNat = s.pReg.toNat) ∧
      (idx = 0x003#10 → d.toNat = s.pQty.toNat) ∧ (idx = 0x004#10 → d.toNat = s.pValue.toNat) ∧
      (idx = 0x005#10 → d.toNat = s.crcIn.toNat) ∧ (idx = 0x006#10 → d = s.cfgSettle) ∧ (idx = 0x007#10 → d = s.cfgTimeout) ∧
      (∀ i, i < 123 → idx.toNat = 0x100 + i → d.toNat = (readCell s.wdata i).toNat) ∧
      (idx = 0x008#10 → d = stat s) ∧ (idx = 0x009#10 → d.toNat = s.rxCount.toNat) ∧ (idx = 0x00A#10 → d.toNat = s.crcAcc.toNat) ∧
      (idx = 0x00B#10 → d.toNat = s.expLen.toNat) ∧ (idx = 0x00C#10 → d.toNat = s.txLen.toNat) ∧
      (∀ i, i < 125 → idx.toNat = 0x200 + i → d.toNat = (readCell s.rdata i).toNat)

/-- STAT's fields stand where R31 puts them: STATE [2:0], STATUS [7:4], EXC_CODE [15:8], RDATA_VALID [16], OVERRUN [17], BUSY [18],
DONE [19], the other bits 0, with the encodings of R32 and R33; BUSY and DONE follow STATE (R37). -/
def Obligations.StatFieldsArePlaced : Prop :=
  ∀ s : State,
    ((stat s).extractLsb' 0 3).toNat = [ExchangeState.idle, .sent, .awaiting, .validated, .failed].idxOf s.state ∧
    ((stat s).extractLsb' 4 4).toNat = [Status.none, .ok, .incompleteResponse, .checksumMismatch, .exceptionResponse,
      .echoMismatch, .transportError, .invalidRequest].idxOf s.status ∧
    (stat s).extractLsb' 8 8 = s.excCode ∧
    (stat s).getLsbD 16 = s.rdataValid ∧ (stat s).getLsbD 17 = s.overrun ∧
    (stat s).getLsbD 18 = decide (s.state = .sent ∨ s.state = .awaiting) ∧
    (stat s).getLsbD 19 = decide (s.state = .validated ∨ s.state = .failed) ∧
    (stat s).getLsbD 3 = false ∧ (stat s).extractLsb' 20 12 = 0#12

/-! Reset and whole-machine rules -/

/-- Right after reset every register R47 gives a value holds it; and an exchange command issued while P_SLAVE still holds 0 ends FAILED
with INVALID_REQUEST (R47). -/
def Obligations.ResetGivesTheValuesOfTheTable : Prop :=
  let s := State.reset
  s.state = .idle ∧ s.status = .none ∧ s.excCode = 0x00#8 ∧ s.rdataValid = false ∧ s.overrun = false ∧ busy s = false ∧
  done s = false ∧ s.rxCount = 0#16 ∧ s.crcAcc = 0xFFFF#16 ∧ s.expLen = 0#16 ∧ s.txLen = 0#16 ∧ s.pSlave = 0#8 ∧
  s.pReg = 0#16 ∧ s.pQty = 0#16 ∧ s.pValue = 0#16 ∧ s.crcIn = 0#8 ∧ s.cfgSettle = 100#32 ∧ s.cfgTimeout = 1000#32 ∧
  (∀ i, readCell s.wdata i = 0#16) ∧ (∀ i, readCell s.rdata i = 0#16) ∧ s.settleT = 0#32 ∧ s.timeoutT = 0#32 ∧
  (∀ i ∈ [Instr.readRegisters, .readRegister, .writeRegister, .writeRegisters], ∀ u : State, u.pSlave = 0#8 → busy u = false →
    ∃ t, exec i u = .next t ∧ t.state = .failed ∧ t.status = .invalidRequest)

/-- The reset event, in every state, gives the engine its reset values and leaves the channel as it is: CH_OPEN, the input queue and the
frames already written (R47, R230). What R47 leaves unspecified takes the values the model chose in State.reset: the latches and SENT_PH
(log 10), TXBUF, RXBUF and L_WDATA (log 12). What the host read and the events to come are the model's own fields (log 11, log 1). -/
def Obligations.ResetAbandonsTheExchange : Prop :=
  ∀ (s : State) (rest : List Event), s.events = .reset :: rest →
    step s = .next { State.reset with chOpen := s.chOpen, inputQueue := s.inputQueue, written := s.written,
                                      hostData := s.hostData, events := rest }

/-- The invariant of the exchange controller holds right after reset (R47, R231). -/
def Obligations.ResetStateMeetsTheInvariant : Prop := Inv State.reset

/-- Every step keeps the invariant of the exchange controller, from every state that meets it (R34, R35, R38, R42 to R45, R110, R201,
R235). -/
def Obligations.StepKeepsTheInvariant : Prop :=
  ∀ s t : State, Inv s → step s = .next t → Inv t

/-- From every state that meets the invariant the machine takes a step: no fault, no refusal, whatever the event (R200, R215). -/
def Obligations.InvariantStatesNeverStop : Prop :=
  ∀ (n : Nat) (s : State), Inv s → RunsSafely n s

/-- Only well-formed requests reach the channel: each step keeps that, and a slave address 0 or 248 to 255 is never sent (R2, R62,
R86). -/
def Obligations.OnlyValidRequestsReachTheChannel : Prop :=
  (∀ s t : State, Inv s → OnlyValidRequestsSent s → step s = .next t → OnlyValidRequestsSent t) ∧
  (∀ f : List Byte, ValidRequest f → 1 ≤ (byteAt f 0).toNat ∧ (byteAt f 0).toNat ≤ 247)

/-- A frame is written only by the write step of an accepted exchange, one frame, the request of its latches, and the exchange then leaves
the write phase for good: an exchange in progress is in SENT with SENT_PH = WRITE only if it was there before and has written nothing,
so never after SETTLE or AWAITING (R54, R63, R166, R173; the list of frames written is the model's, log 16). -/
def Obligations.OneWritePerExchange : Prop :=
  ∀ s t : State, Inv s → step s = .next t →
    (t.written = s.written ∨
      (s.state = .sent ∧ s.sentPh = .write ∧ s.chOpen = true ∧ t.written = s.written ++ [txFrame s] ∧ HoldsRequest s ∧
        (t.state = .failed ∨ (t.state = .sent ∧ t.sentPh = .settle)))) ∧
    (busy s = true → t.state = .sent → t.sentPh = .write → s.state = .sent ∧ s.sentPh = .write ∧ t.written = s.written)

/-- STATE moves only along the transitions of R160; only reset leaves SENT or AWAITING for IDLE (R160, R173, R239). -/
def Obligations.StateMovesOnlyAlongTheTable : Prop :=
  ∀ s t : State, step s = .next t → ¬ nextIsReset s → Transition s.state t.state

/-- An accepted exchange ends on this schedule: from SENT with the write due, the write step, the settle delay, the settle step, bytes that
arrive, the timeout and the read step, with no other event between them, reach DONE, whatever the channel answers (R63, R172, R182; that
each operation is answered is the premise, log 8; time and the engine's turn are events, log 7). -/
def Obligations.EveryExchangeEnds : Prop :=
  ∀ (s : State) (w a1 a2 : ChanAnswer) (bytes : List Byte) (n m : Nat) (rest : List Event), Inv s → s.state = .sent → s.sentPh = .write →
    s.lSettle.toNat ≤ n → s.lTimeout.toNat ≤ m →
    s.events = .engine w :: .elapse n :: .engine a1 :: .arrive bytes :: .elapse m :: .engine a2 :: rest →
    ∃ t, Host.Core.run core 6 s = .next t ∧ Inv t ∧ done t = true ∧ t.events = rest

/-- OVERRUN is sticky: only a CLEAR command and reset clear it (R36, R209). -/
def Obligations.OverrunIsSticky : Prop :=
  ∀ s t : State, step s = .next t → s.overrun = true → ¬ nextIsReset s → ¬ nextIsCommand 0x2F#8 s → t.overrun = true

/-- RDATA changes only in a step that ends a 0x03 exchange as VALIDATED, and then only at the entries below L_QTY; reset apart (R41,
R141, R171, R236). -/
def Obligations.OnlyAValidatedReadWritesRdata : Prop :=
  ∀ s t : State, Inv s → step s = .next t → ¬ nextIsReset s →
    (s.state = .awaiting ∧ s.lFc = 0x03#8 ∧ t.state = .validated ∧ t.status = .ok ∧
      ∀ i, s.lQty.toNat ≤ i → readCell t.rdata i = readCell s.rdata i) ∨ t.rdata = s.rdata

/-- Two exchanges in progress with equal latches and equal channel, whatever else differs in the engine, answer the same event alike:
both steps go on, the exchanges stay equal, the results are equal, and both write the same frames to the channel. The event is any:
the engine's turn with any answer (done, short or ERR), bytes, time, CH_OPEN, a host access, reset (R143, R172, R183; events are log 1,
replies log 6, the engine's turn and time log 7, frames written log 16; after a reset the latches are equal by log 10; after a read that
answers ERR or ends on a closed channel the input queues are equal by log 17, and CH_OPEN counts when a read is answered by
log 18, the model's choices). -/
def Obligations.ResultDependsOnLatchesAndChannelOnly : Prop :=
  ∀ (s1 s2 : State) (e : Event) (rest1 rest2 : List Event), Inv s1 → Inv s2 → busy s1 = true → SameExchange s1 s2 →
    s1.events = e :: rest1 → s2.events = e :: rest2 →
    ∃ t1 t2, step s1 = .next t1 ∧ step s2 = .next t2 ∧ SameExchange t1 t2 ∧ SameResult t1 t2 ∧
      ∃ w, t1.written = s1.written ++ w ∧ t2.written = s2.written ++ w

/-- TIMEOUT_T counts the units that pass in AWAITING, from L_TIMEOUT at the issue of the read: with fewer than EXP_LEN bytes waiting and
the channel open the read goes on before L_TIMEOUT units have passed, and after them it ends in INCOMPLETE_RESPONSE with the bytes
that came (R45, R168, R181, R202, R216; that time is an event is the model's, log 7). -/
def Obligations.ReadTimeoutCountsFromTheRead : Prop :=
  (∀ (s : State) (n : Nat) (rest : List Event), Inv s → s.state = .awaiting → s.events = .elapse n :: rest →
    ∃ t, step s = .next t ∧ t.timeoutT.toNat = s.timeoutT.toNat - n ∧ t = { s with timeoutT := t.timeoutT, events := rest }) ∧
  (∀ (s : State) (a : ChanAnswer) (n c : Nat) (rest : List Event), Inv s → s.state = .sent → s.sentPh = .settle → s.settleT = 0#32 →
    s.chOpen = true → s.inputQueue.length < s.expLen.toNat →
    s.events = .engine a :: .elapse n :: .engine (.done c) :: rest →
    ∃ t, Host.Core.run core 3 s = .next t ∧
      (n < s.lTimeout.toNat → t.timeoutT.toNat = s.lTimeout.toNat - n ∧
        t = { s with state := .awaiting, timeoutT := t.timeoutT, events := rest }) ∧
      (s.lTimeout.toNat ≤ n → Captured s.inputQueue s t ∧
        t = { s with state := .failed, status := .incompleteResponse, timeoutT := 0#32, rxbuf := t.rxbuf, rxCount := t.rxCount,
                     inputQueue := [], events := rest }))
end

