-- ==== Sys2Proof/Laws/Frames.lean ====
section
/-! SUPPORT. The laws of the byte-order helpers, of the CRC's append and check, and the lengths of the frames. -/

namespace Sys2Proof.Machine

@[simp] theorem hi8_be16 (h l : Byte) : hi8 (be16 h l) = h := by
  apply BitVec.eq_of_getLsbD_eq
  intro i hi
  simp only [hi8, be16, BitVec.getLsbD_append, BitVec.getLsbD_extractLsb']
  simp [hi]

@[simp] theorem lo8_be16 (h l : Byte) : lo8 (be16 h l) = l := by
  apply BitVec.eq_of_getLsbD_eq
  intro i hi
  simp only [lo8, be16, BitVec.getLsbD_append, BitVec.getLsbD_extractLsb']
  simp [hi]

@[simp] theorem be16_hi8_lo8 (v : HalfWord) : be16 (hi8 v) (lo8 v) = v := by
  apply BitVec.eq_of_getLsbD_eq
  intro i hi
  simp only [be16, hi8, lo8, BitVec.getLsbD_append, BitVec.getLsbD_extractLsb']
  split
  · simp [*]
  · simp [show i - 8 < 8 by omega, show 8 + (i - 8) = i by omega]

@[simp] theorem le16_lo8_hi8 (v : HalfWord) : le16 (lo8 v) (hi8 v) = v := be16_hi8_lo8 v

@[simp] theorem bigEndian_length (vs : List HalfWord) : (bigEndian vs).length = 2 * vs.length := by
  induction vs with
  | nil => rfl
  | cons v vs ih => simp [bigEndian, ih]; omega

@[simp] theorem fromBigEndian_bigEndian (vs : List HalfWord) : fromBigEndian (bigEndian vs) = some vs := by
  induction vs with
  | nil => rfl
  | cons v vs ih => simp [bigEndian, fromBigEndian, ih]

theorem bigEndian_of_fromBigEndian {bs : List Byte} {vs : List HalfWord} (h : fromBigEndian bs = some vs) :
    bigEndian vs = bs := by
  induction bs using fromBigEndian.induct generalizing vs with
  | case1 => simp [fromBigEndian] at h; subst h; rfl
  | case2 => simp [fromBigEndian] at h
  | case3 a b rest ih =>
    simp only [fromBigEndian, Option.map_eq_some_iff] at h
    obtain ⟨t, ht, rfl⟩ := h
    simp [bigEndian, ih ht]

/-- Value `i` on the wire: bytes `2i` and `2i+1`. -/
theorem bigEndian_getElem? (vs : List HalfWord) (i : Nat) :
    (bigEndian vs)[2 * i]? = vs[i]?.map hi8 ∧ (bigEndian vs)[2 * i + 1]? = vs[i]?.map lo8 := by
  induction vs generalizing i with
  | nil => simp [bigEndian]
  | cons v vs ih =>
    cases i with
    | zero => simp [bigEndian]
    | succ i => simpa [bigEndian, Nat.mul_succ] using ih i

@[simp] theorem crcFold_nil (a : HalfWord) : crcFold a [] = a := rfl

@[simp] theorem crcFold_cons (a : HalfWord) (b : Byte) (s : List Byte) : crcFold a (b :: s) = crcFold (crcByte a b) s := rfl

theorem crcFold_append (a : HalfWord) (s t : List Byte) : crcFold a (s ++ t) = crcFold (crcFold a s) t := by
  simp [crcFold]

@[simp] theorem withCrc_length (m : List Byte) : (withCrc m).length = m.length + 2 := by simp [withCrc]

/-- The bytes before the CRC are the body. -/
@[simp] theorem withCrc_take (m : List Byte) : (withCrc m).take m.length = m := by simp [withCrc]

theorem byteAt_eq_getElem {f : List Byte} {i : Nat} (h : i < f.length) : byteAt f i = f[i] := by
  simp [byteAt, h]

/-- A body with its CRC passes the check (R103, R104). -/
@[simp] theorem crcOk_withCrc (m : List Byte) : crcOk (withCrc m) = true := by
  simp [crcOk, byteAt, withCrc]

/-- A frame that passes the check is its body with the body's CRC. -/
theorem eq_withCrc_of_crcOk {f : List Byte} (hl : 2 ≤ f.length) (h : crcOk f = true) :
    f = withCrc (f.take (f.length - 2)) := by
  have hs : f = f.take (f.length - 2) ++ [byteAt f (f.length - 2), byteAt f (f.length - 1)] := by
    apply List.ext_getElem
    · simp; omega
    · intro n h1 h2
      by_cases hn : n < f.length - 2
      · rw [List.getElem_append_left (by simp; omega)]; simp
      · rw [List.getElem_append_right (by simp; omega)]
        have h2 : n - (f.take (f.length - 2)).length = n - (f.length - 2) := by simp
        rcases (show n = f.length - 2 ∨ n = f.length - 1 by omega) with rfl | rfl
        · simp [byteAt_eq_getElem h1]
        · simp only [h2, show f.length - 1 - (f.length - 2) = 1 by omega]
          simp [byteAt_eq_getElem h1]
  simp only [crcOk, beq_iff_eq] at h
  have hc : ∀ h l : Byte, lo8 (le16 l h) = l ∧ hi8 (le16 l h) = h := fun h l => ⟨lo8_be16 h l, hi8_be16 h l⟩
  rw [withCrc, h, (hc _ _).1, (hc _ _).2]
  exact hs

@[simp] theorem readRequestFrame_length (s : Byte) (r q : HalfWord) : (readRequestFrame s r q).length = 8 := by
  simp [readRequestFrame]

@[simp] theorem writeSingleFrame_length (s : Byte) (r v : HalfWord) : (writeSingleFrame s r v).length = 8 := by
  simp [writeSingleFrame]

@[simp] theorem writeMultipleFrame_length (s : Byte) (r : HalfWord) (vs : List HalfWord) :
    (writeMultipleFrame s r vs).length = 9 + 2 * vs.length := by
  simp [writeMultipleFrame]; omega

@[simp] theorem readReplyFrame_length (s c : Byte) (vs : List HalfWord) :
    (readReplyFrame s c vs).length = 5 + 2 * vs.length := by
  simp [readReplyFrame]; omega

@[simp] theorem writeMultipleReplyFrame_length (s : Byte) (r q : HalfWord) : (writeMultipleReplyFrame s r q).length = 8 := by
  simp [writeMultipleReplyFrame]

@[simp] theorem exceptionFrame_length (s fc c : Byte) (rest : List Byte) :
    (exceptionFrame s fc c rest).length = 5 + rest.length := by
  simp [exceptionFrame]; omega

end Sys2Proof.Machine
end

