-- ==== Sys2Proof/Laws/State.lean ====
section
/-! SUPPORT. One lemma for each field of each named update of State, true by `rfl`, so that no later proof unfolds a record
update. The last ones say the same of `complete`, whose update depends on the function code. -/

namespace Sys2Proof.Machine

variable (s : State)

/-! `raise` (R203) -/

@[simp] theorem raise_pSlave (st : Status) (info : Info) : (raise st info s).pSlave = s.pSlave := rfl
@[simp] theorem raise_pReg (st : Status) (info : Info) : (raise st info s).pReg = s.pReg := rfl
@[simp] theorem raise_pQty (st : Status) (info : Info) : (raise st info s).pQty = s.pQty := rfl
@[simp] theorem raise_pValue (st : Status) (info : Info) : (raise st info s).pValue = s.pValue := rfl
@[simp] theorem raise_crcIn (st : Status) (info : Info) : (raise st info s).crcIn = s.crcIn := rfl
@[simp] theorem raise_cfgSettle (st : Status) (info : Info) : (raise st info s).cfgSettle = s.cfgSettle := rfl
@[simp] theorem raise_cfgTimeout (st : Status) (info : Info) : (raise st info s).cfgTimeout = s.cfgTimeout := rfl
@[simp] theorem raise_state (st : Status) (info : Info) : (raise st info s).state = .failed := rfl
@[simp] theorem raise_status (st : Status) (info : Info) : (raise st info s).status = st := rfl
@[simp] theorem raise_excCode (st : Status) (info : Info) : (raise st info s).excCode = (if st = .exceptionResponse then info.codeOr s.excCode else s.excCode) := rfl
@[simp] theorem raise_rdataValid (st : Status) (info : Info) : (raise st info s).rdataValid = s.rdataValid := rfl
@[simp] theorem raise_overrun (st : Status) (info : Info) : (raise st info s).overrun = s.overrun := rfl
@[simp] theorem raise_rxCount (st : Status) (info : Info) : (raise st info s).rxCount = s.rxCount := rfl
@[simp] theorem raise_crcAcc (st : Status) (info : Info) : (raise st info s).crcAcc = s.crcAcc := rfl
@[simp] theorem raise_expLen (st : Status) (info : Info) : (raise st info s).expLen = s.expLen := rfl
@[simp] theorem raise_txLen (st : Status) (info : Info) : (raise st info s).txLen = s.txLen := rfl
@[simp] theorem raise_wdata (st : Status) (info : Info) : (raise st info s).wdata = s.wdata := rfl
@[simp] theorem raise_rdata (st : Status) (info : Info) : (raise st info s).rdata = s.rdata := rfl
@[simp] theorem raise_lFc (st : Status) (info : Info) : (raise st info s).lFc = s.lFc := rfl
@[simp] theorem raise_lSlave (st : Status) (info : Info) : (raise st info s).lSlave = s.lSlave := rfl
@[simp] theorem raise_lReg (st : Status) (info : Info) : (raise st info s).lReg = s.lReg := rfl
@[simp] theorem raise_lQty (st : Status) (info : Info) : (raise st info s).lQty = s.lQty := rfl
@[simp] theorem raise_lValue (st : Status) (info : Info) : (raise st info s).lValue = s.lValue := rfl
@[simp] theorem raise_lWdata (st : Status) (info : Info) : (raise st info s).lWdata = s.lWdata := rfl
@[simp] theorem raise_lSettle (st : Status) (info : Info) : (raise st info s).lSettle = s.lSettle := rfl
@[simp] theorem raise_lTimeout (st : Status) (info : Info) : (raise st info s).lTimeout = s.lTimeout := rfl
@[simp] theorem raise_txbuf (st : Status) (info : Info) : (raise st info s).txbuf = s.txbuf := rfl
@[simp] theorem raise_rxbuf (st : Status) (info : Info) : (raise st info s).rxbuf = s.rxbuf := rfl
@[simp] theorem raise_settleT (st : Status) (info : Info) : (raise st info s).settleT = s.settleT := rfl
@[simp] theorem raise_timeoutT (st : Status) (info : Info) : (raise st info s).timeoutT = s.timeoutT := rfl
@[simp] theorem raise_sentPh (st : Status) (info : Info) : (raise st info s).sentPh = s.sentPh := rfl
@[simp] theorem raise_chOpen (st : Status) (info : Info) : (raise st info s).chOpen = s.chOpen := rfl
@[simp] theorem raise_inputQueue (st : Status) (info : Info) : (raise st info s).inputQueue = s.inputQueue := rfl
@[simp] theorem raise_written (st : Status) (info : Info) : (raise st info s).written = s.written := rfl
@[simp] theorem raise_hostData (st : Status) (info : Info) : (raise st info s).hostData = s.hostData := rfl
@[simp] theorem raise_events (st : Status) (info : Info) : (raise st info s).events = s.events := rfl

/-! `clearResults` (R163) -/

@[simp] theorem clearResults_pSlave : (clearResults s).pSlave = s.pSlave := rfl
@[simp] theorem clearResults_pReg : (clearResults s).pReg = s.pReg := rfl
@[simp] theorem clearResults_pQty : (clearResults s).pQty = s.pQty := rfl
@[simp] theorem clearResults_pValue : (clearResults s).pValue = s.pValue := rfl
@[simp] theorem clearResults_crcIn : (clearResults s).crcIn = s.crcIn := rfl
@[simp] theorem clearResults_cfgSettle : (clearResults s).cfgSettle = s.cfgSettle := rfl
@[simp] theorem clearResults_cfgTimeout : (clearResults s).cfgTimeout = s.cfgTimeout := rfl
@[simp] theorem clearResults_state : (clearResults s).state = s.state := rfl
@[simp] theorem clearResults_status : (clearResults s).status = .none := rfl
@[simp] theorem clearResults_excCode : (clearResults s).excCode = 0#8 := rfl
@[simp] theorem clearResults_rdataValid : (clearResults s).rdataValid = false := rfl
@[simp] theorem clearResults_overrun : (clearResults s).overrun = s.overrun := rfl
@[simp] theorem clearResults_rxCount : (clearResults s).rxCount = 0#16 := rfl
@[simp] theorem clearResults_crcAcc : (clearResults s).crcAcc = s.crcAcc := rfl
@[simp] theorem clearResults_expLen : (clearResults s).expLen = s.expLen := rfl
@[simp] theorem clearResults_txLen : (clearResults s).txLen = s.txLen := rfl
@[simp] theorem clearResults_wdata : (clearResults s).wdata = s.wdata := rfl
@[simp] theorem clearResults_rdata : (clearResults s).rdata = s.rdata := rfl
@[simp] theorem clearResults_lFc : (clearResults s).lFc = s.lFc := rfl
@[simp] theorem clearResults_lSlave : (clearResults s).lSlave = s.lSlave := rfl
@[simp] theorem clearResults_lReg : (clearResults s).lReg = s.lReg := rfl
@[simp] theorem clearResults_lQty : (clearResults s).lQty = s.lQty := rfl
@[simp] theorem clearResults_lValue : (clearResults s).lValue = s.lValue := rfl
@[simp] theorem clearResults_lWdata : (clearResults s).lWdata = s.lWdata := rfl
@[simp] theorem clearResults_lSettle : (clearResults s).lSettle = s.lSettle := rfl
@[simp] theorem clearResults_lTimeout : (clearResults s).lTimeout = s.lTimeout := rfl
@[simp] theorem clearResults_txbuf : (clearResults s).txbuf = s.txbuf := rfl
@[simp] theorem clearResults_rxbuf : (clearResults s).rxbuf = s.rxbuf := rfl
@[simp] theorem clearResults_settleT : (clearResults s).settleT = s.settleT := rfl
@[simp] theorem clearResults_timeoutT : (clearResults s).timeoutT = s.timeoutT := rfl
@[simp] theorem clearResults_sentPh : (clearResults s).sentPh = s.sentPh := rfl
@[simp] theorem clearResults_chOpen : (clearResults s).chOpen = s.chOpen := rfl
@[simp] theorem clearResults_inputQueue : (clearResults s).inputQueue = s.inputQueue := rfl
@[simp] theorem clearResults_written : (clearResults s).written = s.written := rfl
@[simp] theorem clearResults_hostData : (clearResults s).hostData = s.hostData := rfl
@[simp] theorem clearResults_events : (clearResults s).events = s.events := rfl

/-! `rejectRequest` (R164) -/

@[simp] theorem rejectRequest_pSlave : (rejectRequest s).pSlave = s.pSlave := rfl
@[simp] theorem rejectRequest_pReg : (rejectRequest s).pReg = s.pReg := rfl
@[simp] theorem rejectRequest_pQty : (rejectRequest s).pQty = s.pQty := rfl
@[simp] theorem rejectRequest_pValue : (rejectRequest s).pValue = s.pValue := rfl
@[simp] theorem rejectRequest_crcIn : (rejectRequest s).crcIn = s.crcIn := rfl
@[simp] theorem rejectRequest_cfgSettle : (rejectRequest s).cfgSettle = s.cfgSettle := rfl
@[simp] theorem rejectRequest_cfgTimeout : (rejectRequest s).cfgTimeout = s.cfgTimeout := rfl
@[simp] theorem rejectRequest_state : (rejectRequest s).state = .failed := rfl
@[simp] theorem rejectRequest_status : (rejectRequest s).status = .invalidRequest := rfl
@[simp] theorem rejectRequest_excCode : (rejectRequest s).excCode = s.excCode := rfl
@[simp] theorem rejectRequest_rdataValid : (rejectRequest s).rdataValid = s.rdataValid := rfl
@[simp] theorem rejectRequest_overrun : (rejectRequest s).overrun = s.overrun := rfl
@[simp] theorem rejectRequest_rxCount : (rejectRequest s).rxCount = s.rxCount := rfl
@[simp] theorem rejectRequest_crcAcc : (rejectRequest s).crcAcc = s.crcAcc := rfl
@[simp] theorem rejectRequest_expLen : (rejectRequest s).expLen = 0#16 := rfl
@[simp] theorem rejectRequest_txLen : (rejectRequest s).txLen = 0#16 := rfl
@[simp] theorem rejectRequest_wdata : (rejectRequest s).wdata = s.wdata := rfl
@[simp] theorem rejectRequest_rdata : (rejectRequest s).rdata = s.rdata := rfl
@[simp] theorem rejectRequest_lFc : (rejectRequest s).lFc = s.lFc := rfl
@[simp] theorem rejectRequest_lSlave : (rejectRequest s).lSlave = s.lSlave := rfl
@[simp] theorem rejectRequest_lReg : (rejectRequest s).lReg = s.lReg := rfl
@[simp] theorem rejectRequest_lQty : (rejectRequest s).lQty = s.lQty := rfl
@[simp] theorem rejectRequest_lValue : (rejectRequest s).lValue = s.lValue := rfl
@[simp] theorem rejectRequest_lWdata : (rejectRequest s).lWdata = s.lWdata := rfl
@[simp] theorem rejectRequest_lSettle : (rejectRequest s).lSettle = s.lSettle := rfl
@[simp] theorem rejectRequest_lTimeout : (rejectRequest s).lTimeout = s.lTimeout := rfl
@[simp] theorem rejectRequest_txbuf : (rejectRequest s).txbuf = s.txbuf := rfl
@[simp] theorem rejectRequest_rxbuf : (rejectRequest s).rxbuf = s.rxbuf := rfl
@[simp] theorem rejectRequest_settleT : (rejectRequest s).settleT = s.settleT := rfl
@[simp] theorem rejectRequest_timeoutT : (rejectRequest s).timeoutT = s.timeoutT := rfl
@[simp] theorem rejectRequest_sentPh : (rejectRequest s).sentPh = s.sentPh := rfl
@[simp] theorem rejectRequest_chOpen : (rejectRequest s).chOpen = s.chOpen := rfl
@[simp] theorem rejectRequest_inputQueue : (rejectRequest s).inputQueue = s.inputQueue := rfl
@[simp] theorem rejectRequest_written : (rejectRequest s).written = s.written := rfl
@[simp] theorem rejectRequest_hostData : (rejectRequest s).hostData = s.hostData := rfl
@[simp] theorem rejectRequest_events : (rejectRequest s).events = s.events := rfl

/-! `recordRequest` (R110) -/

@[simp] theorem recordRequest_pSlave (f : List Byte) (e : HalfWord) : (recordRequest f e s).pSlave = s.pSlave := rfl
@[simp] theorem recordRequest_pReg (f : List Byte) (e : HalfWord) : (recordRequest f e s).pReg = s.pReg := rfl
@[simp] theorem recordRequest_pQty (f : List Byte) (e : HalfWord) : (recordRequest f e s).pQty = s.pQty := rfl
@[simp] theorem recordRequest_pValue (f : List Byte) (e : HalfWord) : (recordRequest f e s).pValue = s.pValue := rfl
@[simp] theorem recordRequest_crcIn (f : List Byte) (e : HalfWord) : (recordRequest f e s).crcIn = s.crcIn := rfl
@[simp] theorem recordRequest_cfgSettle (f : List Byte) (e : HalfWord) : (recordRequest f e s).cfgSettle = s.cfgSettle := rfl
@[simp] theorem recordRequest_cfgTimeout (f : List Byte) (e : HalfWord) : (recordRequest f e s).cfgTimeout = s.cfgTimeout := rfl
@[simp] theorem recordRequest_state (f : List Byte) (e : HalfWord) : (recordRequest f e s).state = s.state := rfl
@[simp] theorem recordRequest_status (f : List Byte) (e : HalfWord) : (recordRequest f e s).status = s.status := rfl
@[simp] theorem recordRequest_excCode (f : List Byte) (e : HalfWord) : (recordRequest f e s).excCode = s.excCode := rfl
@[simp] theorem recordRequest_rdataValid (f : List Byte) (e : HalfWord) : (recordRequest f e s).rdataValid = s.rdataValid := rfl
@[simp] theorem recordRequest_overrun (f : List Byte) (e : HalfWord) : (recordRequest f e s).overrun = s.overrun := rfl
@[simp] theorem recordRequest_rxCount (f : List Byte) (e : HalfWord) : (recordRequest f e s).rxCount = s.rxCount := rfl
@[simp] theorem recordRequest_crcAcc (f : List Byte) (e : HalfWord) : (recordRequest f e s).crcAcc = s.crcAcc := rfl
@[simp] theorem recordRequest_expLen (f : List Byte) (e : HalfWord) : (recordRequest f e s).expLen = e := rfl
@[simp] theorem recordRequest_txLen (f : List Byte) (e : HalfWord) : (recordRequest f e s).txLen = (BitVec.ofNat 16 f.length) := rfl
@[simp] theorem recordRequest_wdata (f : List Byte) (e : HalfWord) : (recordRequest f e s).wdata = s.wdata := rfl
@[simp] theorem recordRequest_rdata (f : List Byte) (e : HalfWord) : (recordRequest f e s).rdata = s.rdata := rfl
@[simp] theorem recordRequest_lFc (f : List Byte) (e : HalfWord) : (recordRequest f e s).lFc = s.lFc := rfl
@[simp] theorem recordRequest_lSlave (f : List Byte) (e : HalfWord) : (recordRequest f e s).lSlave = s.lSlave := rfl
@[simp] theorem recordRequest_lReg (f : List Byte) (e : HalfWord) : (recordRequest f e s).lReg = s.lReg := rfl
@[simp] theorem recordRequest_lQty (f : List Byte) (e : HalfWord) : (recordRequest f e s).lQty = s.lQty := rfl
@[simp] theorem recordRequest_lValue (f : List Byte) (e : HalfWord) : (recordRequest f e s).lValue = s.lValue := rfl
@[simp] theorem recordRequest_lWdata (f : List Byte) (e : HalfWord) : (recordRequest f e s).lWdata = s.lWdata := rfl
@[simp] theorem recordRequest_lSettle (f : List Byte) (e : HalfWord) : (recordRequest f e s).lSettle = s.lSettle := rfl
@[simp] theorem recordRequest_lTimeout (f : List Byte) (e : HalfWord) : (recordRequest f e s).lTimeout = s.lTimeout := rfl
@[simp] theorem recordRequest_txbuf (f : List Byte) (e : HalfWord) : (recordRequest f e s).txbuf = (memWrite s.txbuf 0 f) := rfl
@[simp] theorem recordRequest_rxbuf (f : List Byte) (e : HalfWord) : (recordRequest f e s).rxbuf = s.rxbuf := rfl
@[simp] theorem recordRequest_settleT (f : List Byte) (e : HalfWord) : (recordRequest f e s).settleT = s.settleT := rfl
@[simp] theorem recordRequest_timeoutT (f : List Byte) (e : HalfWord) : (recordRequest f e s).timeoutT = s.timeoutT := rfl
@[simp] theorem recordRequest_sentPh (f : List Byte) (e : HalfWord) : (recordRequest f e s).sentPh = s.sentPh := rfl
@[simp] theorem recordRequest_chOpen (f : List Byte) (e : HalfWord) : (recordRequest f e s).chOpen = s.chOpen := rfl
@[simp] theorem recordRequest_inputQueue (f : List Byte) (e : HalfWord) : (recordRequest f e s).inputQueue = s.inputQueue := rfl
@[simp] theorem recordRequest_written (f : List Byte) (e : HalfWord) : (recordRequest f e s).written = s.written := rfl
@[simp] theorem recordRequest_hostData (f : List Byte) (e : HalfWord) : (recordRequest f e s).hostData = s.hostData := rfl
@[simp] theorem recordRequest_events (f : List Byte) (e : HalfWord) : (recordRequest f e s).events = s.events := rfl

/-! `startExchange` (R162) -/

@[simp] theorem startExchange_pSlave : (startExchange s).pSlave = s.pSlave := rfl
@[simp] theorem startExchange_pReg : (startExchange s).pReg = s.pReg := rfl
@[simp] theorem startExchange_pQty : (startExchange s).pQty = s.pQty := rfl
@[simp] theorem startExchange_pValue : (startExchange s).pValue = s.pValue := rfl
@[simp] theorem startExchange_crcIn : (startExchange s).crcIn = s.crcIn := rfl
@[simp] theorem startExchange_cfgSettle : (startExchange s).cfgSettle = s.cfgSettle := rfl
@[simp] theorem startExchange_cfgTimeout : (startExchange s).cfgTimeout = s.cfgTimeout := rfl
@[simp] theorem startExchange_state : (startExchange s).state = .sent := rfl
@[simp] theorem startExchange_status : (startExchange s).status = s.status := rfl
@[simp] theorem startExchange_excCode : (startExchange s).excCode = s.excCode := rfl
@[simp] theorem startExchange_rdataValid : (startExchange s).rdataValid = s.rdataValid := rfl
@[simp] theorem startExchange_overrun : (startExchange s).overrun = s.overrun := rfl
@[simp] theorem startExchange_rxCount : (startExchange s).rxCount = s.rxCount := rfl
@[simp] theorem startExchange_crcAcc : (startExchange s).crcAcc = s.crcAcc := rfl
@[simp] theorem startExchange_expLen : (startExchange s).expLen = s.expLen := rfl
@[simp] theorem startExchange_txLen : (startExchange s).txLen = s.txLen := rfl
@[simp] theorem startExchange_wdata : (startExchange s).wdata = s.wdata := rfl
@[simp] theorem startExchange_rdata : (startExchange s).rdata = s.rdata := rfl
@[simp] theorem startExchange_lFc : (startExchange s).lFc = s.lFc := rfl
@[simp] theorem startExchange_lSlave : (startExchange s).lSlave = s.lSlave := rfl
@[simp] theorem startExchange_lReg : (startExchange s).lReg = s.lReg := rfl
@[simp] theorem startExchange_lQty : (startExchange s).lQty = s.lQty := rfl
@[simp] theorem startExchange_lValue : (startExchange s).lValue = s.lValue := rfl
@[simp] theorem startExchange_lWdata : (startExchange s).lWdata = s.lWdata := rfl
@[simp] theorem startExchange_lSettle : (startExchange s).lSettle = s.lSettle := rfl
@[simp] theorem startExchange_lTimeout : (startExchange s).lTimeout = s.lTimeout := rfl
@[simp] theorem startExchange_txbuf : (startExchange s).txbuf = s.txbuf := rfl
@[simp] theorem startExchange_rxbuf : (startExchange s).rxbuf = s.rxbuf := rfl
@[simp] theorem startExchange_settleT : (startExchange s).settleT = s.settleT := rfl
@[simp] theorem startExchange_timeoutT : (startExchange s).timeoutT = s.timeoutT := rfl
@[simp] theorem startExchange_sentPh : (startExchange s).sentPh = .write := rfl
@[simp] theorem startExchange_chOpen : (startExchange s).chOpen = s.chOpen := rfl
@[simp] theorem startExchange_inputQueue : (startExchange s).inputQueue = s.inputQueue := rfl
@[simp] theorem startExchange_written : (startExchange s).written = s.written := rfl
@[simp] theorem startExchange_hostData : (startExchange s).hostData = s.hostData := rfl
@[simp] theorem startExchange_events : (startExchange s).events = s.events := rfl

/-! `overrunOnly` (R161) -/

@[simp] theorem overrunOnly_pSlave : (overrunOnly s).pSlave = s.pSlave := rfl
@[simp] theorem overrunOnly_pReg : (overrunOnly s).pReg = s.pReg := rfl
@[simp] theorem overrunOnly_pQty : (overrunOnly s).pQty = s.pQty := rfl
@[simp] theorem overrunOnly_pValue : (overrunOnly s).pValue = s.pValue := rfl
@[simp] theorem overrunOnly_crcIn : (overrunOnly s).crcIn = s.crcIn := rfl
@[simp] theorem overrunOnly_cfgSettle : (overrunOnly s).cfgSettle = s.cfgSettle := rfl
@[simp] theorem overrunOnly_cfgTimeout : (overrunOnly s).cfgTimeout = s.cfgTimeout := rfl
@[simp] theorem overrunOnly_state : (overrunOnly s).state = s.state := rfl
@[simp] theorem overrunOnly_status : (overrunOnly s).status = s.status := rfl
@[simp] theorem overrunOnly_excCode : (overrunOnly s).excCode = s.excCode := rfl
@[simp] theorem overrunOnly_rdataValid : (overrunOnly s).rdataValid = s.rdataValid := rfl
@[simp] theorem overrunOnly_overrun : (overrunOnly s).overrun = true := rfl
@[simp] theorem overrunOnly_rxCount : (overrunOnly s).rxCount = s.rxCount := rfl
@[simp] theorem overrunOnly_crcAcc : (overrunOnly s).crcAcc = s.crcAcc := rfl
@[simp] theorem overrunOnly_expLen : (overrunOnly s).expLen = s.expLen := rfl
@[simp] theorem overrunOnly_txLen : (overrunOnly s).txLen = s.txLen := rfl
@[simp] theorem overrunOnly_wdata : (overrunOnly s).wdata = s.wdata := rfl
@[simp] theorem overrunOnly_rdata : (overrunOnly s).rdata = s.rdata := rfl
@[simp] theorem overrunOnly_lFc : (overrunOnly s).lFc = s.lFc := rfl
@[simp] theorem overrunOnly_lSlave : (overrunOnly s).lSlave = s.lSlave := rfl
@[simp] theorem overrunOnly_lReg : (overrunOnly s).lReg = s.lReg := rfl
@[simp] theorem overrunOnly_lQty : (overrunOnly s).lQty = s.lQty := rfl
@[simp] theorem overrunOnly_lValue : (overrunOnly s).lValue = s.lValue := rfl
@[simp] theorem overrunOnly_lWdata : (overrunOnly s).lWdata = s.lWdata := rfl
@[simp] theorem overrunOnly_lSettle : (overrunOnly s).lSettle = s.lSettle := rfl
@[simp] theorem overrunOnly_lTimeout : (overrunOnly s).lTimeout = s.lTimeout := rfl
@[simp] theorem overrunOnly_txbuf : (overrunOnly s).txbuf = s.txbuf := rfl
@[simp] theorem overrunOnly_rxbuf : (overrunOnly s).rxbuf = s.rxbuf := rfl
@[simp] theorem overrunOnly_settleT : (overrunOnly s).settleT = s.settleT := rfl
@[simp] theorem overrunOnly_timeoutT : (overrunOnly s).timeoutT = s.timeoutT := rfl
@[simp] theorem overrunOnly_sentPh : (overrunOnly s).sentPh = s.sentPh := rfl
@[simp] theorem overrunOnly_chOpen : (overrunOnly s).chOpen = s.chOpen := rfl
@[simp] theorem overrunOnly_inputQueue : (overrunOnly s).inputQueue = s.inputQueue := rfl
@[simp] theorem overrunOnly_written : (overrunOnly s).written = s.written := rfl
@[simp] theorem overrunOnly_hostData : (overrunOnly s).hostData = s.hostData := rfl
@[simp] theorem overrunOnly_events : (overrunOnly s).events = s.events := rfl

/-! `clearAll` (R178) -/

@[simp] theorem clearAll_pSlave : (clearAll s).pSlave = s.pSlave := rfl
@[simp] theorem clearAll_pReg : (clearAll s).pReg = s.pReg := rfl
@[simp] theorem clearAll_pQty : (clearAll s).pQty = s.pQty := rfl
@[simp] theorem clearAll_pValue : (clearAll s).pValue = s.pValue := rfl
@[simp] theorem clearAll_crcIn : (clearAll s).crcIn = s.crcIn := rfl
@[simp] theorem clearAll_cfgSettle : (clearAll s).cfgSettle = s.cfgSettle := rfl
@[simp] theorem clearAll_cfgTimeout : (clearAll s).cfgTimeout = s.cfgTimeout := rfl
@[simp] theorem clearAll_state : (clearAll s).state = .idle := rfl
@[simp] theorem clearAll_status : (clearAll s).status = .none := rfl
@[simp] theorem clearAll_excCode : (clearAll s).excCode = 0#8 := rfl
@[simp] theorem clearAll_rdataValid : (clearAll s).rdataValid = false := rfl
@[simp] theorem clearAll_overrun : (clearAll s).overrun = false := rfl
@[simp] theorem clearAll_rxCount : (clearAll s).rxCount = 0#16 := rfl
@[simp] theorem clearAll_crcAcc : (clearAll s).crcAcc = s.crcAcc := rfl
@[simp] theorem clearAll_expLen : (clearAll s).expLen = 0#16 := rfl
@[simp] theorem clearAll_txLen : (clearAll s).txLen = 0#16 := rfl
@[simp] theorem clearAll_wdata : (clearAll s).wdata = s.wdata := rfl
@[simp] theorem clearAll_rdata : (clearAll s).rdata = s.rdata := rfl
@[simp] theorem clearAll_lFc : (clearAll s).lFc = s.lFc := rfl
@[simp] theorem clearAll_lSlave : (clearAll s).lSlave = s.lSlave := rfl
@[simp] theorem clearAll_lReg : (clearAll s).lReg = s.lReg := rfl
@[simp] theorem clearAll_lQty : (clearAll s).lQty = s.lQty := rfl
@[simp] theorem clearAll_lValue : (clearAll s).lValue = s.lValue := rfl
@[simp] theorem clearAll_lWdata : (clearAll s).lWdata = s.lWdata := rfl
@[simp] theorem clearAll_lSettle : (clearAll s).lSettle = s.lSettle := rfl
@[simp] theorem clearAll_lTimeout : (clearAll s).lTimeout = s.lTimeout := rfl
@[simp] theorem clearAll_txbuf : (clearAll s).txbuf = s.txbuf := rfl
@[simp] theorem clearAll_rxbuf : (clearAll s).rxbuf = s.rxbuf := rfl
@[simp] theorem clearAll_settleT : (clearAll s).settleT = s.settleT := rfl
@[simp] theorem clearAll_timeoutT : (clearAll s).timeoutT = s.timeoutT := rfl
@[simp] theorem clearAll_sentPh : (clearAll s).sentPh = s.sentPh := rfl
@[simp] theorem clearAll_chOpen : (clearAll s).chOpen = s.chOpen := rfl
@[simp] theorem clearAll_inputQueue : (clearAll s).inputQueue = s.inputQueue := rfl
@[simp] theorem clearAll_written : (clearAll s).written = s.written := rfl
@[simp] theorem clearAll_hostData : (clearAll s).hostData = s.hostData := rfl
@[simp] theorem clearAll_events : (clearAll s).events = s.events := rfl

/-! `capture` (R169) -/

@[simp] theorem capture_pSlave (r : List Byte) : (capture r s).pSlave = s.pSlave := rfl
@[simp] theorem capture_pReg (r : List Byte) : (capture r s).pReg = s.pReg := rfl
@[simp] theorem capture_pQty (r : List Byte) : (capture r s).pQty = s.pQty := rfl
@[simp] theorem capture_pValue (r : List Byte) : (capture r s).pValue = s.pValue := rfl
@[simp] theorem capture_crcIn (r : List Byte) : (capture r s).crcIn = s.crcIn := rfl
@[simp] theorem capture_cfgSettle (r : List Byte) : (capture r s).cfgSettle = s.cfgSettle := rfl
@[simp] theorem capture_cfgTimeout (r : List Byte) : (capture r s).cfgTimeout = s.cfgTimeout := rfl
@[simp] theorem capture_state (r : List Byte) : (capture r s).state = s.state := rfl
@[simp] theorem capture_status (r : List Byte) : (capture r s).status = s.status := rfl
@[simp] theorem capture_excCode (r : List Byte) : (capture r s).excCode = s.excCode := rfl
@[simp] theorem capture_rdataValid (r : List Byte) : (capture r s).rdataValid = s.rdataValid := rfl
@[simp] theorem capture_overrun (r : List Byte) : (capture r s).overrun = s.overrun := rfl
@[simp] theorem capture_rxCount (r : List Byte) : (capture r s).rxCount = (BitVec.ofNat 16 r.length) := rfl
@[simp] theorem capture_crcAcc (r : List Byte) : (capture r s).crcAcc = s.crcAcc := rfl
@[simp] theorem capture_expLen (r : List Byte) : (capture r s).expLen = s.expLen := rfl
@[simp] theorem capture_txLen (r : List Byte) : (capture r s).txLen = s.txLen := rfl
@[simp] theorem capture_wdata (r : List Byte) : (capture r s).wdata = s.wdata := rfl
@[simp] theorem capture_rdata (r : List Byte) : (capture r s).rdata = s.rdata := rfl
@[simp] theorem capture_lFc (r : List Byte) : (capture r s).lFc = s.lFc := rfl
@[simp] theorem capture_lSlave (r : List Byte) : (capture r s).lSlave = s.lSlave := rfl
@[simp] theorem capture_lReg (r : List Byte) : (capture r s).lReg = s.lReg := rfl
@[simp] theorem capture_lQty (r : List Byte) : (capture r s).lQty = s.lQty := rfl
@[simp] theorem capture_lValue (r : List Byte) : (capture r s).lValue = s.lValue := rfl
@[simp] theorem capture_lWdata (r : List Byte) : (capture r s).lWdata = s.lWdata := rfl
@[simp] theorem capture_lSettle (r : List Byte) : (capture r s).lSettle = s.lSettle := rfl
@[simp] theorem capture_lTimeout (r : List Byte) : (capture r s).lTimeout = s.lTimeout := rfl
@[simp] theorem capture_txbuf (r : List Byte) : (capture r s).txbuf = s.txbuf := rfl
@[simp] theorem capture_rxbuf (r : List Byte) : (capture r s).rxbuf = (memWrite s.rxbuf 0 r) := rfl
@[simp] theorem capture_settleT (r : List Byte) : (capture r s).settleT = s.settleT := rfl
@[simp] theorem capture_timeoutT (r : List Byte) : (capture r s).timeoutT = s.timeoutT := rfl
@[simp] theorem capture_sentPh (r : List Byte) : (capture r s).sentPh = s.sentPh := rfl
@[simp] theorem capture_chOpen (r : List Byte) : (capture r s).chOpen = s.chOpen := rfl
@[simp] theorem capture_inputQueue (r : List Byte) : (capture r s).inputQueue = s.inputQueue := rfl
@[simp] theorem capture_written (r : List Byte) : (capture r s).written = s.written := rfl
@[simp] theorem capture_hostData (r : List Byte) : (capture r s).hostData = s.hostData := rfl
@[simp] theorem capture_events (r : List Byte) : (capture r s).events = s.events := rfl

/-! `elapse` (R216) -/

@[simp] theorem elapse_pSlave (n : Nat) : (elapse n s).pSlave = s.pSlave := rfl
@[simp] theorem elapse_pReg (n : Nat) : (elapse n s).pReg = s.pReg := rfl
@[simp] theorem elapse_pQty (n : Nat) : (elapse n s).pQty = s.pQty := rfl
@[simp] theorem elapse_pValue (n : Nat) : (elapse n s).pValue = s.pValue := rfl
@[simp] theorem elapse_crcIn (n : Nat) : (elapse n s).crcIn = s.crcIn := rfl
@[simp] theorem elapse_cfgSettle (n : Nat) : (elapse n s).cfgSettle = s.cfgSettle := rfl
@[simp] theorem elapse_cfgTimeout (n : Nat) : (elapse n s).cfgTimeout = s.cfgTimeout := rfl
@[simp] theorem elapse_state (n : Nat) : (elapse n s).state = s.state := rfl
@[simp] theorem elapse_status (n : Nat) : (elapse n s).status = s.status := rfl
@[simp] theorem elapse_excCode (n : Nat) : (elapse n s).excCode = s.excCode := rfl
@[simp] theorem elapse_rdataValid (n : Nat) : (elapse n s).rdataValid = s.rdataValid := rfl
@[simp] theorem elapse_overrun (n : Nat) : (elapse n s).overrun = s.overrun := rfl
@[simp] theorem elapse_rxCount (n : Nat) : (elapse n s).rxCount = s.rxCount := rfl
@[simp] theorem elapse_crcAcc (n : Nat) : (elapse n s).crcAcc = s.crcAcc := rfl
@[simp] theorem elapse_expLen (n : Nat) : (elapse n s).expLen = s.expLen := rfl
@[simp] theorem elapse_txLen (n : Nat) : (elapse n s).txLen = s.txLen := rfl
@[simp] theorem elapse_wdata (n : Nat) : (elapse n s).wdata = s.wdata := rfl
@[simp] theorem elapse_rdata (n : Nat) : (elapse n s).rdata = s.rdata := rfl
@[simp] theorem elapse_lFc (n : Nat) : (elapse n s).lFc = s.lFc := rfl
@[simp] theorem elapse_lSlave (n : Nat) : (elapse n s).lSlave = s.lSlave := rfl
@[simp] theorem elapse_lReg (n : Nat) : (elapse n s).lReg = s.lReg := rfl
@[simp] theorem elapse_lQty (n : Nat) : (elapse n s).lQty = s.lQty := rfl
@[simp] theorem elapse_lValue (n : Nat) : (elapse n s).lValue = s.lValue := rfl
@[simp] theorem elapse_lWdata (n : Nat) : (elapse n s).lWdata = s.lWdata := rfl
@[simp] theorem elapse_lSettle (n : Nat) : (elapse n s).lSettle = s.lSettle := rfl
@[simp] theorem elapse_lTimeout (n : Nat) : (elapse n s).lTimeout = s.lTimeout := rfl
@[simp] theorem elapse_txbuf (n : Nat) : (elapse n s).txbuf = s.txbuf := rfl
@[simp] theorem elapse_rxbuf (n : Nat) : (elapse n s).rxbuf = s.rxbuf := rfl
@[simp] theorem elapse_settleT (n : Nat) : (elapse n s).settleT = (countDown s.settleT n) := rfl
@[simp] theorem elapse_timeoutT (n : Nat) : (elapse n s).timeoutT = (countDown s.timeoutT n) := rfl
@[simp] theorem elapse_sentPh (n : Nat) : (elapse n s).sentPh = s.sentPh := rfl
@[simp] theorem elapse_chOpen (n : Nat) : (elapse n s).chOpen = s.chOpen := rfl
@[simp] theorem elapse_inputQueue (n : Nat) : (elapse n s).inputQueue = s.inputQueue := rfl
@[simp] theorem elapse_written (n : Nat) : (elapse n s).written = s.written := rfl
@[simp] theorem elapse_hostData (n : Nat) : (elapse n s).hostData = s.hostData := rfl
@[simp] theorem elapse_events (n : Nat) : (elapse n s).events = s.events := rfl

/-! `arrive` (R49) -/

@[simp] theorem arrive_pSlave (b : List Byte) : (arrive b s).pSlave = s.pSlave := rfl
@[simp] theorem arrive_pReg (b : List Byte) : (arrive b s).pReg = s.pReg := rfl
@[simp] theorem arrive_pQty (b : List Byte) : (arrive b s).pQty = s.pQty := rfl
@[simp] theorem arrive_pValue (b : List Byte) : (arrive b s).pValue = s.pValue := rfl
@[simp] theorem arrive_crcIn (b : List Byte) : (arrive b s).crcIn = s.crcIn := rfl
@[simp] theorem arrive_cfgSettle (b : List Byte) : (arrive b s).cfgSettle = s.cfgSettle := rfl
@[simp] theorem arrive_cfgTimeout (b : List Byte) : (arrive b s).cfgTimeout = s.cfgTimeout := rfl
@[simp] theorem arrive_state (b : List Byte) : (arrive b s).state = s.state := rfl
@[simp] theorem arrive_status (b : List Byte) : (arrive b s).status = s.status := rfl
@[simp] theorem arrive_excCode (b : List Byte) : (arrive b s).excCode = s.excCode := rfl
@[simp] theorem arrive_rdataValid (b : List Byte) : (arrive b s).rdataValid = s.rdataValid := rfl
@[simp] theorem arrive_overrun (b : List Byte) : (arrive b s).overrun = s.overrun := rfl
@[simp] theorem arrive_rxCount (b : List Byte) : (arrive b s).rxCount = s.rxCount := rfl
@[simp] theorem arrive_crcAcc (b : List Byte) : (arrive b s).crcAcc = s.crcAcc := rfl
@[simp] theorem arrive_expLen (b : List Byte) : (arrive b s).expLen = s.expLen := rfl
@[simp] theorem arrive_txLen (b : List Byte) : (arrive b s).txLen = s.txLen := rfl
@[simp] theorem arrive_wdata (b : List Byte) : (arrive b s).wdata = s.wdata := rfl
@[simp] theorem arrive_rdata (b : List Byte) : (arrive b s).rdata = s.rdata := rfl
@[simp] theorem arrive_lFc (b : List Byte) : (arrive b s).lFc = s.lFc := rfl
@[simp] theorem arrive_lSlave (b : List Byte) : (arrive b s).lSlave = s.lSlave := rfl
@[simp] theorem arrive_lReg (b : List Byte) : (arrive b s).lReg = s.lReg := rfl
@[simp] theorem arrive_lQty (b : List Byte) : (arrive b s).lQty = s.lQty := rfl
@[simp] theorem arrive_lValue (b : List Byte) : (arrive b s).lValue = s.lValue := rfl
@[simp] theorem arrive_lWdata (b : List Byte) : (arrive b s).lWdata = s.lWdata := rfl
@[simp] theorem arrive_lSettle (b : List Byte) : (arrive b s).lSettle = s.lSettle := rfl
@[simp] theorem arrive_lTimeout (b : List Byte) : (arrive b s).lTimeout = s.lTimeout := rfl
@[simp] theorem arrive_txbuf (b : List Byte) : (arrive b s).txbuf = s.txbuf := rfl
@[simp] theorem arrive_rxbuf (b : List Byte) : (arrive b s).rxbuf = s.rxbuf := rfl
@[simp] theorem arrive_settleT (b : List Byte) : (arrive b s).settleT = s.settleT := rfl
@[simp] theorem arrive_timeoutT (b : List Byte) : (arrive b s).timeoutT = s.timeoutT := rfl
@[simp] theorem arrive_sentPh (b : List Byte) : (arrive b s).sentPh = s.sentPh := rfl
@[simp] theorem arrive_chOpen (b : List Byte) : (arrive b s).chOpen = s.chOpen := rfl
@[simp] theorem arrive_inputQueue (b : List Byte) : (arrive b s).inputQueue = (s.inputQueue ++ b) := rfl
@[simp] theorem arrive_written (b : List Byte) : (arrive b s).written = s.written := rfl
@[simp] theorem arrive_hostData (b : List Byte) : (arrive b s).hostData = s.hostData := rfl
@[simp] theorem arrive_events (b : List Byte) : (arrive b s).events = s.events := rfl

/-! `latch` (R162) -/

@[simp] theorem latch_pSlave (fc : Byte) : (latch fc s).pSlave = s.pSlave := rfl
@[simp] theorem latch_pReg (fc : Byte) : (latch fc s).pReg = s.pReg := rfl
@[simp] theorem latch_pQty (fc : Byte) : (latch fc s).pQty = s.pQty := rfl
@[simp] theorem latch_pValue (fc : Byte) : (latch fc s).pValue = s.pValue := rfl
@[simp] theorem latch_crcIn (fc : Byte) : (latch fc s).crcIn = s.crcIn := rfl
@[simp] theorem latch_cfgSettle (fc : Byte) : (latch fc s).cfgSettle = s.cfgSettle := rfl
@[simp] theorem latch_cfgTimeout (fc : Byte) : (latch fc s).cfgTimeout = s.cfgTimeout := rfl
@[simp] theorem latch_state (fc : Byte) : (latch fc s).state = s.state := rfl
@[simp] theorem latch_status (fc : Byte) : (latch fc s).status = s.status := rfl
@[simp] theorem latch_excCode (fc : Byte) : (latch fc s).excCode = s.excCode := rfl
@[simp] theorem latch_rdataValid (fc : Byte) : (latch fc s).rdataValid = s.rdataValid := rfl
@[simp] theorem latch_overrun (fc : Byte) : (latch fc s).overrun = s.overrun := rfl
@[simp] theorem latch_rxCount (fc : Byte) : (latch fc s).rxCount = s.rxCount := rfl
@[simp] theorem latch_crcAcc (fc : Byte) : (latch fc s).crcAcc = s.crcAcc := rfl
@[simp] theorem latch_expLen (fc : Byte) : (latch fc s).expLen = s.expLen := rfl
@[simp] theorem latch_txLen (fc : Byte) : (latch fc s).txLen = s.txLen := rfl
@[simp] theorem latch_wdata (fc : Byte) : (latch fc s).wdata = s.wdata := rfl
@[simp] theorem latch_rdata (fc : Byte) : (latch fc s).rdata = s.rdata := rfl
@[simp] theorem latch_lFc (fc : Byte) : (latch fc s).lFc = fc := rfl
@[simp] theorem latch_lSlave (fc : Byte) : (latch fc s).lSlave = s.pSlave := rfl
@[simp] theorem latch_lReg (fc : Byte) : (latch fc s).lReg = s.pReg := rfl
@[simp] theorem latch_lQty (fc : Byte) : (latch fc s).lQty = s.pQty := rfl
@[simp] theorem latch_lValue (fc : Byte) : (latch fc s).lValue = s.pValue := rfl
@[simp] theorem latch_lWdata (fc : Byte) : (latch fc s).lWdata = (if fc = 0x10#8 ∧ writeQtyOk s.pQty.toNat = true then memWrite s.lWdata 0 (memRead s.wdata 0 s.pQty.toNat) else s.lWdata) := rfl
@[simp] theorem latch_lSettle (fc : Byte) : (latch fc s).lSettle = s.cfgSettle := rfl
@[simp] theorem latch_lTimeout (fc : Byte) : (latch fc s).lTimeout = s.cfgTimeout := rfl
@[simp] theorem latch_txbuf (fc : Byte) : (latch fc s).txbuf = s.txbuf := rfl
@[simp] theorem latch_rxbuf (fc : Byte) : (latch fc s).rxbuf = s.rxbuf := rfl
@[simp] theorem latch_settleT (fc : Byte) : (latch fc s).settleT = s.settleT := rfl
@[simp] theorem latch_timeoutT (fc : Byte) : (latch fc s).timeoutT = s.timeoutT := rfl
@[simp] theorem latch_sentPh (fc : Byte) : (latch fc s).sentPh = s.sentPh := rfl
@[simp] theorem latch_chOpen (fc : Byte) : (latch fc s).chOpen = s.chOpen := rfl
@[simp] theorem latch_inputQueue (fc : Byte) : (latch fc s).inputQueue = s.inputQueue := rfl
@[simp] theorem latch_written (fc : Byte) : (latch fc s).written = s.written := rfl
@[simp] theorem latch_hostData (fc : Byte) : (latch fc s).hostData = s.hostData := rfl
@[simp] theorem latch_events (fc : Byte) : (latch fc s).events = s.events := rfl

/-! `resetEngine` (R230) -/

@[simp] theorem resetEngine_pSlave : (resetEngine s).pSlave = State.reset.pSlave := rfl
@[simp] theorem resetEngine_pReg : (resetEngine s).pReg = State.reset.pReg := rfl
@[simp] theorem resetEngine_pQty : (resetEngine s).pQty = State.reset.pQty := rfl
@[simp] theorem resetEngine_pValue : (resetEngine s).pValue = State.reset.pValue := rfl
@[simp] theorem resetEngine_crcIn : (resetEngine s).crcIn = State.reset.crcIn := rfl
@[simp] theorem resetEngine_cfgSettle : (resetEngine s).cfgSettle = State.reset.cfgSettle := rfl
@[simp] theorem resetEngine_cfgTimeout : (resetEngine s).cfgTimeout = State.reset.cfgTimeout := rfl
@[simp] theorem resetEngine_state : (resetEngine s).state = State.reset.state := rfl
@[simp] theorem resetEngine_status : (resetEngine s).status = State.reset.status := rfl
@[simp] theorem resetEngine_excCode : (resetEngine s).excCode = State.reset.excCode := rfl
@[simp] theorem resetEngine_rdataValid : (resetEngine s).rdataValid = State.reset.rdataValid := rfl
@[simp] theorem resetEngine_overrun : (resetEngine s).overrun = State.reset.overrun := rfl
@[simp] theorem resetEngine_rxCount : (resetEngine s).rxCount = State.reset.rxCount := rfl
@[simp] theorem resetEngine_crcAcc : (resetEngine s).crcAcc = State.reset.crcAcc := rfl
@[simp] theorem resetEngine_expLen : (resetEngine s).expLen = State.reset.expLen := rfl
@[simp] theorem resetEngine_txLen : (resetEngine s).txLen = State.reset.txLen := rfl
@[simp] theorem resetEngine_wdata : (resetEngine s).wdata = State.reset.wdata := rfl
@[simp] theorem resetEngine_rdata : (resetEngine s).rdata = State.reset.rdata := rfl
@[simp] theorem resetEngine_lFc : (resetEngine s).lFc = State.reset.lFc := rfl
@[simp] theorem resetEngine_lSlave : (resetEngine s).lSlave = State.reset.lSlave := rfl
@[simp] theorem resetEngine_lReg : (resetEngine s).lReg = State.reset.lReg := rfl
@[simp] theorem resetEngine_lQty : (resetEngine s).lQty = State.reset.lQty := rfl
@[simp] theorem resetEngine_lValue : (resetEngine s).lValue = State.reset.lValue := rfl
@[simp] theorem resetEngine_lWdata : (resetEngine s).lWdata = State.reset.lWdata := rfl
@[simp] theorem resetEngine_lSettle : (resetEngine s).lSettle = State.reset.lSettle := rfl
@[simp] theorem resetEngine_lTimeout : (resetEngine s).lTimeout = State.reset.lTimeout := rfl
@[simp] theorem resetEngine_txbuf : (resetEngine s).txbuf = State.reset.txbuf := rfl
@[simp] theorem resetEngine_rxbuf : (resetEngine s).rxbuf = State.reset.rxbuf := rfl
@[simp] theorem resetEngine_settleT : (resetEngine s).settleT = State.reset.settleT := rfl
@[simp] theorem resetEngine_timeoutT : (resetEngine s).timeoutT = State.reset.timeoutT := rfl
@[simp] theorem resetEngine_sentPh : (resetEngine s).sentPh = State.reset.sentPh := rfl
@[simp] theorem resetEngine_chOpen : (resetEngine s).chOpen = s.chOpen := rfl
@[simp] theorem resetEngine_inputQueue : (resetEngine s).inputQueue = s.inputQueue := rfl
@[simp] theorem resetEngine_written : (resetEngine s).written = s.written := rfl
@[simp] theorem resetEngine_hostData : (resetEngine s).hostData = s.hostData := rfl
@[simp] theorem resetEngine_events : (resetEngine s).events = s.events := rfl

/-! `complete` (R171) -/

@[simp] theorem complete_pSlave (vs : List HalfWord) : (complete vs s).pSlave = s.pSlave := by
  unfold complete; split <;> rfl
@[simp] theorem complete_pReg (vs : List HalfWord) : (complete vs s).pReg = s.pReg := by
  unfold complete; split <;> rfl
@[simp] theorem complete_pQty (vs : List HalfWord) : (complete vs s).pQty = s.pQty := by
  unfold complete; split <;> rfl
@[simp] theorem complete_pValue (vs : List HalfWord) : (complete vs s).pValue = s.pValue := by
  unfold complete; split <;> rfl
@[simp] theorem complete_crcIn (vs : List HalfWord) : (complete vs s).crcIn = s.crcIn := by
  unfold complete; split <;> rfl
@[simp] theorem complete_cfgSettle (vs : List HalfWord) : (complete vs s).cfgSettle = s.cfgSettle := by
  unfold complete; split <;> rfl
@[simp] theorem complete_cfgTimeout (vs : List HalfWord) : (complete vs s).cfgTimeout = s.cfgTimeout := by
  unfold complete; split <;> rfl
@[simp] theorem complete_state (vs : List HalfWord) : (complete vs s).state = .validated := by
  unfold complete; split <;> rfl
@[simp] theorem complete_status (vs : List HalfWord) : (complete vs s).status = .ok := by
  unfold complete; split <;> rfl
@[simp] theorem complete_excCode (vs : List HalfWord) : (complete vs s).excCode = s.excCode := by
  unfold complete; split <;> rfl
@[simp] theorem complete_rdataValid (vs : List HalfWord) : (complete vs s).rdataValid = (if s.lFc = 0x03#8 then true else s.rdataValid) := by
  unfold complete; split <;> rfl
@[simp] theorem complete_overrun (vs : List HalfWord) : (complete vs s).overrun = s.overrun := by
  unfold complete; split <;> rfl
@[simp] theorem complete_rxCount (vs : List HalfWord) : (complete vs s).rxCount = s.rxCount := by
  unfold complete; split <;> rfl
@[simp] theorem complete_crcAcc (vs : List HalfWord) : (complete vs s).crcAcc = s.crcAcc := by
  unfold complete; split <;> rfl
@[simp] theorem complete_expLen (vs : List HalfWord) : (complete vs s).expLen = s.expLen := by
  unfold complete; split <;> rfl
@[simp] theorem complete_txLen (vs : List HalfWord) : (complete vs s).txLen = s.txLen := by
  unfold complete; split <;> rfl
@[simp] theorem complete_wdata (vs : List HalfWord) : (complete vs s).wdata = s.wdata := by
  unfold complete; split <;> rfl
@[simp] theorem complete_rdata (vs : List HalfWord) : (complete vs s).rdata = (if s.lFc = 0x03#8 then memWrite s.rdata 0 vs else s.rdata) := by
  unfold complete; split <;> rfl
@[simp] theorem complete_lFc (vs : List HalfWord) : (complete vs s).lFc = s.lFc := by
  unfold complete; split <;> rfl
@[simp] theorem complete_lSlave (vs : List HalfWord) : (complete vs s).lSlave = s.lSlave := by
  unfold complete; split <;> rfl
@[simp] theorem complete_lReg (vs : List HalfWord) : (complete vs s).lReg = s.lReg := by
  unfold complete; split <;> rfl
@[simp] theorem complete_lQty (vs : List HalfWord) : (complete vs s).lQty = s.lQty := by
  unfold complete; split <;> rfl
@[simp] theorem complete_lValue (vs : List HalfWord) : (complete vs s).lValue = s.lValue := by
  unfold complete; split <;> rfl
@[simp] theorem complete_lWdata (vs : List HalfWord) : (complete vs s).lWdata = s.lWdata := by
  unfold complete; split <;> rfl
@[simp] theorem complete_lSettle (vs : List HalfWord) : (complete vs s).lSettle = s.lSettle := by
  unfold complete; split <;> rfl
@[simp] theorem complete_lTimeout (vs : List HalfWord) : (complete vs s).lTimeout = s.lTimeout := by
  unfold complete; split <;> rfl
@[simp] theorem complete_txbuf (vs : List HalfWord) : (complete vs s).txbuf = s.txbuf := by
  unfold complete; split <;> rfl
@[simp] theorem complete_rxbuf (vs : List HalfWord) : (complete vs s).rxbuf = s.rxbuf := by
  unfold complete; split <;> rfl
@[simp] theorem complete_settleT (vs : List HalfWord) : (complete vs s).settleT = s.settleT := by
  unfold complete; split <;> rfl
@[simp] theorem complete_timeoutT (vs : List HalfWord) : (complete vs s).timeoutT = s.timeoutT := by
  unfold complete; split <;> rfl
@[simp] theorem complete_sentPh (vs : List HalfWord) : (complete vs s).sentPh = s.sentPh := by
  unfold complete; split <;> rfl
@[simp] theorem complete_chOpen (vs : List HalfWord) : (complete vs s).chOpen = s.chOpen := by
  unfold complete; split <;> rfl
@[simp] theorem complete_inputQueue (vs : List HalfWord) : (complete vs s).inputQueue = s.inputQueue := by
  unfold complete; split <;> rfl
@[simp] theorem complete_written (vs : List HalfWord) : (complete vs s).written = s.written := by
  unfold complete; split <;> rfl
@[simp] theorem complete_hostData (vs : List HalfWord) : (complete vs s).hostData = s.hostData := by
  unfold complete; split <;> rfl
@[simp] theorem complete_events (vs : List HalfWord) : (complete vs s).events = s.events := by
  unfold complete; split <;> rfl

/-! `writeReg` (R22): every field a host write does not store to -/

@[simp] theorem writeReg_state (v : Word) (r : HostReg) : (writeReg v s r).state = s.state := by cases r <;> rfl
@[simp] theorem writeReg_status (v : Word) (r : HostReg) : (writeReg v s r).status = s.status := by cases r <;> rfl
@[simp] theorem writeReg_excCode (v : Word) (r : HostReg) : (writeReg v s r).excCode = s.excCode := by cases r <;> rfl
@[simp] theorem writeReg_rdataValid (v : Word) (r : HostReg) : (writeReg v s r).rdataValid = s.rdataValid := by cases r <;> rfl
@[simp] theorem writeReg_overrun (v : Word) (r : HostReg) : (writeReg v s r).overrun = s.overrun := by cases r <;> rfl
@[simp] theorem writeReg_rxCount (v : Word) (r : HostReg) : (writeReg v s r).rxCount = s.rxCount := by cases r <;> rfl
@[simp] theorem writeReg_crcAcc (v : Word) (r : HostReg) : (writeReg v s r).crcAcc = s.crcAcc := by cases r <;> rfl
@[simp] theorem writeReg_expLen (v : Word) (r : HostReg) : (writeReg v s r).expLen = s.expLen := by cases r <;> rfl
@[simp] theorem writeReg_txLen (v : Word) (r : HostReg) : (writeReg v s r).txLen = s.txLen := by cases r <;> rfl
@[simp] theorem writeReg_rdata (v : Word) (r : HostReg) : (writeReg v s r).rdata = s.rdata := by cases r <;> rfl
@[simp] theorem writeReg_lFc (v : Word) (r : HostReg) : (writeReg v s r).lFc = s.lFc := by cases r <;> rfl
@[simp] theorem writeReg_lSlave (v : Word) (r : HostReg) : (writeReg v s r).lSlave = s.lSlave := by cases r <;> rfl
@[simp] theorem writeReg_lReg (v : Word) (r : HostReg) : (writeReg v s r).lReg = s.lReg := by cases r <;> rfl
@[simp] theorem writeReg_lQty (v : Word) (r : HostReg) : (writeReg v s r).lQty = s.lQty := by cases r <;> rfl
@[simp] theorem writeReg_lValue (v : Word) (r : HostReg) : (writeReg v s r).lValue = s.lValue := by cases r <;> rfl
@[simp] theorem writeReg_lWdata (v : Word) (r : HostReg) : (writeReg v s r).lWdata = s.lWdata := by cases r <;> rfl
@[simp] theorem writeReg_lSettle (v : Word) (r : HostReg) : (writeReg v s r).lSettle = s.lSettle := by cases r <;> rfl
@[simp] theorem writeReg_lTimeout (v : Word) (r : HostReg) : (writeReg v s r).lTimeout = s.lTimeout := by cases r <;> rfl
@[simp] theorem writeReg_txbuf (v : Word) (r : HostReg) : (writeReg v s r).txbuf = s.txbuf := by cases r <;> rfl
@[simp] theorem writeReg_rxbuf (v : Word) (r : HostReg) : (writeReg v s r).rxbuf = s.rxbuf := by cases r <;> rfl
@[simp] theorem writeReg_settleT (v : Word) (r : HostReg) : (writeReg v s r).settleT = s.settleT := by cases r <;> rfl
@[simp] theorem writeReg_timeoutT (v : Word) (r : HostReg) : (writeReg v s r).timeoutT = s.timeoutT := by cases r <;> rfl
@[simp] theorem writeReg_sentPh (v : Word) (r : HostReg) : (writeReg v s r).sentPh = s.sentPh := by cases r <;> rfl
@[simp] theorem writeReg_chOpen (v : Word) (r : HostReg) : (writeReg v s r).chOpen = s.chOpen := by cases r <;> rfl
@[simp] theorem writeReg_inputQueue (v : Word) (r : HostReg) : (writeReg v s r).inputQueue = s.inputQueue := by cases r <;> rfl
@[simp] theorem writeReg_written (v : Word) (r : HostReg) : (writeReg v s r).written = s.written := by cases r <;> rfl
@[simp] theorem writeReg_hostData (v : Word) (r : HostReg) : (writeReg v s r).hostData = s.hostData := by cases r <;> rfl
@[simp] theorem writeReg_events (v : Word) (r : HostReg) : (writeReg v s r).events = s.events := by cases r <;> rfl

/-- The state with its first event taken off. -/
def popEvent (s : State) : State := { s with events := s.events.tail }

@[simp] theorem popEvent_pSlave : (popEvent s).pSlave = s.pSlave := rfl
@[simp] theorem popEvent_pReg : (popEvent s).pReg = s.pReg := rfl
@[simp] theorem popEvent_pQty : (popEvent s).pQty = s.pQty := rfl
@[simp] theorem popEvent_pValue : (popEvent s).pValue = s.pValue := rfl
@[simp] theorem popEvent_crcIn : (popEvent s).crcIn = s.crcIn := rfl
@[simp] theorem popEvent_cfgSettle : (popEvent s).cfgSettle = s.cfgSettle := rfl
@[simp] theorem popEvent_cfgTimeout : (popEvent s).cfgTimeout = s.cfgTimeout := rfl
@[simp] theorem popEvent_state : (popEvent s).state = s.state := rfl
@[simp] theorem popEvent_status : (popEvent s).status = s.status := rfl
@[simp] theorem popEvent_excCode : (popEvent s).excCode = s.excCode := rfl
@[simp] theorem popEvent_rdataValid : (popEvent s).rdataValid = s.rdataValid := rfl
@[simp] theorem popEvent_overrun : (popEvent s).overrun = s.overrun := rfl
@[simp] theorem popEvent_rxCount : (popEvent s).rxCount = s.rxCount := rfl
@[simp] theorem popEvent_crcAcc : (popEvent s).crcAcc = s.crcAcc := rfl
@[simp] theorem popEvent_expLen : (popEvent s).expLen = s.expLen := rfl
@[simp] theorem popEvent_txLen : (popEvent s).txLen = s.txLen := rfl
@[simp] theorem popEvent_wdata : (popEvent s).wdata = s.wdata := rfl
@[simp] theorem popEvent_rdata : (popEvent s).rdata = s.rdata := rfl
@[simp] theorem popEvent_lFc : (popEvent s).lFc = s.lFc := rfl
@[simp] theorem popEvent_lSlave : (popEvent s).lSlave = s.lSlave := rfl
@[simp] theorem popEvent_lReg : (popEvent s).lReg = s.lReg := rfl
@[simp] theorem popEvent_lQty : (popEvent s).lQty = s.lQty := rfl
@[simp] theorem popEvent_lValue : (popEvent s).lValue = s.lValue := rfl
@[simp] theorem popEvent_lWdata : (popEvent s).lWdata = s.lWdata := rfl
@[simp] theorem popEvent_lSettle : (popEvent s).lSettle = s.lSettle := rfl
@[simp] theorem popEvent_lTimeout : (popEvent s).lTimeout = s.lTimeout := rfl
@[simp] theorem popEvent_txbuf : (popEvent s).txbuf = s.txbuf := rfl
@[simp] theorem popEvent_rxbuf : (popEvent s).rxbuf = s.rxbuf := rfl
@[simp] theorem popEvent_settleT : (popEvent s).settleT = s.settleT := rfl
@[simp] theorem popEvent_timeoutT : (popEvent s).timeoutT = s.timeoutT := rfl
@[simp] theorem popEvent_sentPh : (popEvent s).sentPh = s.sentPh := rfl
@[simp] theorem popEvent_chOpen : (popEvent s).chOpen = s.chOpen := rfl
@[simp] theorem popEvent_inputQueue : (popEvent s).inputQueue = s.inputQueue := rfl
@[simp] theorem popEvent_written : (popEvent s).written = s.written := rfl
@[simp] theorem popEvent_hostData : (popEvent s).hostData = s.hostData := rfl
@[simp] theorem popEvent_events : (popEvent s).events = s.events.tail := rfl

/-- The state a read ends in: what the channel still holds, and TIMEOUT_T. -/
def readEnd (q : List Byte) (tt : Word) (s : State) : State := { s with inputQueue := q, timeoutT := tt }

@[simp] theorem readEnd_pSlave (q : List Byte) (tt : Word) : (readEnd q tt s).pSlave = s.pSlave := rfl
@[simp] theorem readEnd_pReg (q : List Byte) (tt : Word) : (readEnd q tt s).pReg = s.pReg := rfl
@[simp] theorem readEnd_pQty (q : List Byte) (tt : Word) : (readEnd q tt s).pQty = s.pQty := rfl
@[simp] theorem readEnd_pValue (q : List Byte) (tt : Word) : (readEnd q tt s).pValue = s.pValue := rfl
@[simp] theorem readEnd_crcIn (q : List Byte) (tt : Word) : (readEnd q tt s).crcIn = s.crcIn := rfl
@[simp] theorem readEnd_cfgSettle (q : List Byte) (tt : Word) : (readEnd q tt s).cfgSettle = s.cfgSettle := rfl
@[simp] theorem readEnd_cfgTimeout (q : List Byte) (tt : Word) : (readEnd q tt s).cfgTimeout = s.cfgTimeout := rfl
@[simp] theorem readEnd_state (q : List Byte) (tt : Word) : (readEnd q tt s).state = s.state := rfl
@[simp] theorem readEnd_status (q : List Byte) (tt : Word) : (readEnd q tt s).status = s.status := rfl
@[simp] theorem readEnd_excCode (q : List Byte) (tt : Word) : (readEnd q tt s).excCode = s.excCode := rfl
@[simp] theorem readEnd_rdataValid (q : List Byte) (tt : Word) : (readEnd q tt s).rdataValid = s.rdataValid := rfl
@[simp] theorem readEnd_overrun (q : List Byte) (tt : Word) : (readEnd q tt s).overrun = s.overrun := rfl
@[simp] theorem readEnd_rxCount (q : List Byte) (tt : Word) : (readEnd q tt s).rxCount = s.rxCount := rfl
@[simp] theorem readEnd_crcAcc (q : List Byte) (tt : Word) : (readEnd q tt s).crcAcc = s.crcAcc := rfl
@[simp] theorem readEnd_expLen (q : List Byte) (tt : Word) : (readEnd q tt s).expLen = s.expLen := rfl
@[simp] theorem readEnd_txLen (q : List Byte) (tt : Word) : (readEnd q tt s).txLen = s.txLen := rfl
@[simp] theorem readEnd_wdata (q : List Byte) (tt : Word) : (readEnd q tt s).wdata = s.wdata := rfl
@[simp] theorem readEnd_rdata (q : List Byte) (tt : Word) : (readEnd q tt s).rdata = s.rdata := rfl
@[simp] theorem readEnd_lFc (q : List Byte) (tt : Word) : (readEnd q tt s).lFc = s.lFc := rfl
@[simp] theorem readEnd_lSlave (q : List Byte) (tt : Word) : (readEnd q tt s).lSlave = s.lSlave := rfl
@[simp] theorem readEnd_lReg (q : List Byte) (tt : Word) : (readEnd q tt s).lReg = s.lReg := rfl
@[simp] theorem readEnd_lQty (q : List Byte) (tt : Word) : (readEnd q tt s).lQty = s.lQty := rfl
@[simp] theorem readEnd_lValue (q : List Byte) (tt : Word) : (readEnd q tt s).lValue = s.lValue := rfl
@[simp] theorem readEnd_lWdata (q : List Byte) (tt : Word) : (readEnd q tt s).lWdata = s.lWdata := rfl
@[simp] theorem readEnd_lSettle (q : List Byte) (tt : Word) : (readEnd q tt s).lSettle = s.lSettle := rfl
@[simp] theorem readEnd_lTimeout (q : List Byte) (tt : Word) : (readEnd q tt s).lTimeout = s.lTimeout := rfl
@[simp] theorem readEnd_txbuf (q : List Byte) (tt : Word) : (readEnd q tt s).txbuf = s.txbuf := rfl
@[simp] theorem readEnd_rxbuf (q : List Byte) (tt : Word) : (readEnd q tt s).rxbuf = s.rxbuf := rfl
@[simp] theorem readEnd_settleT (q : List Byte) (tt : Word) : (readEnd q tt s).settleT = s.settleT := rfl
@[simp] theorem readEnd_timeoutT (q : List Byte) (tt : Word) : (readEnd q tt s).timeoutT = tt := rfl
@[simp] theorem readEnd_sentPh (q : List Byte) (tt : Word) : (readEnd q tt s).sentPh = s.sentPh := rfl
@[simp] theorem readEnd_chOpen (q : List Byte) (tt : Word) : (readEnd q tt s).chOpen = s.chOpen := rfl
@[simp] theorem readEnd_inputQueue (q : List Byte) (tt : Word) : (readEnd q tt s).inputQueue = q := rfl
@[simp] theorem readEnd_written (q : List Byte) (tt : Word) : (readEnd q tt s).written = s.written := rfl
@[simp] theorem readEnd_hostData (q : List Byte) (tt : Word) : (readEnd q tt s).hostData = s.hostData := rfl
@[simp] theorem readEnd_events (q : List Byte) (tt : Word) : (readEnd q tt s).events = s.events := rfl

end Sys2Proof.Machine
end

