-- ==== Sys2Proof/Laws/Encoder.lean ====
section
/-! SUPPORT. What the encoder can return, said once: the frame, its length and the expected length of each request it builds. -/

namespace Sys2Proof.Machine

theorem slaveOk_iff {s : Byte} : slaveOk s = true ↔ 1 ≤ s.toNat ∧ s.toNat ≤ 247 := by
  simp only [slaveOk, Bool.and_eq_true, decide_eq_true_eq]
  rfl

theorem readQtyOk_iff {q : Nat} : readQtyOk q = true ↔ 1 ≤ q ∧ q ≤ 125 := by
  simp only [readQtyOk, Bool.and_eq_true, decide_eq_true_eq]
  rfl

theorem writeQtyOk_iff {q : Nat} : writeQtyOk q = true ↔ 1 ≤ q ∧ q ≤ 123 := by
  simp only [writeQtyOk, Bool.and_eq_true, decide_eq_true_eq]
  rfl

theorem buildRead_eq_some {slave : Byte} {start qty : HalfWord} {r : List Byte × HalfWord} :
    buildRead slave start qty = some r ↔
      slaveOk slave = true ∧ readQtyOk qty.toNat = true ∧ r = (readRequestFrame slave start qty, 5#16 + 2#16 * qty) := by
  by_cases h1 : slaveOk slave = true <;> by_cases h2 : readQtyOk qty.toNat = true <;>
    simp [buildRead, expectedLength, h1, h2, eq_comm]

theorem buildWriteSingle_eq_some {slave : Byte} {reg value : HalfWord} {r : List Byte × HalfWord} :
    buildWriteSingle slave reg value = some r ↔ slaveOk slave = true ∧ r = (writeSingleFrame slave reg value, 8#16) := by
  by_cases h1 : slaveOk slave = true <;> simp [buildWriteSingle, expectedLength, h1, eq_comm]

theorem buildWriteMultiple_eq_some {slave : Byte} {start : HalfWord} {q : Nat} {value : Nat → HalfWord}
    {r : List Byte × HalfWord} :
    buildWriteMultiple slave start q value = some r ↔
      slaveOk slave = true ∧ writeQtyOk q = true ∧ r = (writeMultipleFrame slave start ((List.range q).map value), 8#16) := by
  by_cases h1 : slaveOk slave = true <;> by_cases h2 : writeQtyOk q = true <;>
    simp [buildWriteMultiple, expectedLength, h1, h2, eq_comm]

/-- The three requests the encoder builds (R110). -/
theorem encodeRequest_cases {fc slave : Byte} {reg qty value : HalfWord} {wd : Memory 16} {f : List Byte} {e : HalfWord}
    (h : encodeRequest fc slave reg qty value wd = some (f, e)) :
    slaveOk slave = true ∧
      ((fc = 0x03#8 ∧ readQtyOk qty.toNat = true ∧ f = readRequestFrame slave reg qty ∧ e = 5#16 + 2#16 * qty) ∨
        (fc = 0x06#8 ∧ f = writeSingleFrame slave reg value ∧ e = 8#16) ∨
        (fc = 0x10#8 ∧ writeQtyOk qty.toNat = true ∧
          f = writeMultipleFrame slave reg ((List.range qty.toNat).map (readCell wd)) ∧ e = 8#16)) := by
  unfold encodeRequest at h
  split at h
  · obtain ⟨h1, h2, h3⟩ := buildRead_eq_some.mp h
    simp_all
  · split at h
    · obtain ⟨h1, h2⟩ := buildWriteSingle_eq_some.mp h
      simp_all
    · split at h
      · obtain ⟨h1, h2, h3⟩ := buildWriteMultiple_eq_some.mp h
        simp_all
      · cases h

/-- The expected length of a read as a number. -/
theorem readLength_toNat {qty : HalfWord} (h : readQtyOk qty.toNat = true) : (5#16 + 2#16 * qty).toNat = 5 + 2 * qty.toNat := by
  rw [readQtyOk_iff] at h
  simp [BitVec.toNat_add, BitVec.toNat_mul]
  omega

/-- Every frame fits TXBUF and every reply fits RXBUF, and a reply has at least 7 bytes. -/
theorem encodeRequest_bounds {fc slave : Byte} {reg qty value : HalfWord} {wd : Memory 16} {f : List Byte} {e : HalfWord}
    (h : encodeRequest fc slave reg qty value wd = some (f, e)) :
    8 ≤ f.length ∧ f.length ≤ 255 ∧ 7 ≤ e.toNat ∧ e.toNat ≤ 255 := by
  obtain ⟨-, ⟨-, hq, rfl, rfl⟩ | ⟨-, rfl, rfl⟩ | ⟨-, hq, rfl, rfl⟩⟩ := encodeRequest_cases h
  · rw [readLength_toNat hq]
    rw [readQtyOk_iff] at hq
    simp; omega
  · simp
  · rw [writeQtyOk_iff] at hq
    simp; omega

theorem byteAt_withCrc {m : List Byte} {i : Nat} (h : i < m.length) : byteAt (withCrc m) i = byteAt m i := by
  simp [byteAt, withCrc, List.getElem?_append_left h]

/-- Bytes 0 to 5 of every request: slave, function code, register, then quantity or value. -/
theorem encodeRequest_header {fc slave : Byte} {reg qty value : HalfWord} {wd : Memory 16} {f : List Byte} {e : HalfWord}
    (h : encodeRequest fc slave reg qty value wd = some (f, e)) :
    f.take 6 = [slave, fc, hi8 reg, lo8 reg, hi8 (if fc = 0x06#8 then value else qty), lo8 (if fc = 0x06#8 then value else qty)] := by
  obtain ⟨-, ⟨rfl, hq, rfl, rfl⟩ | ⟨rfl, rfl, rfl⟩ | ⟨rfl, hq, rfl, rfl⟩⟩ := encodeRequest_cases h
  · simp [readRequestFrame, withCrc]
  · simp [writeSingleFrame, withCrc]
  · simp [writeMultipleFrame, withCrc]

/-- What the controller records of the encoder's result. -/
@[simp] theorem recordOrReject_some (f : List Byte) (e : HalfWord) (s : State) :
    recordOrReject (some (f, e)) s = recordRequest f e s := rfl

@[simp] theorem recordOrReject_none (s : State) : recordOrReject none s = rejectRequest s := rfl

end Sys2Proof.Machine
end

