-- ==== Sys2Proof/Laws/Decode.lean ====
section
/-! SUPPORT. The decoder on a framed body, in both directions. -/

namespace Sys2Proof

open Machine

/-- A body with its CRC, of a length the buffer holds, decodes as its body does. -/
theorem decodeFrame_withCrc {size : Nat} {body : List Byte → Except Reject Instr} {m : List Byte} (h1 : 3 ≤ m.length)
    (h2 : m.length + 2 ≤ size) : decodeFrame size body (withCrc m) = body m := by
  unfold decodeFrame
  rw [if_neg (by simp; omega), if_neg (by simp; omega)]
  simp

/-- What a frame that decodes is: its body with the body's CRC, and the body decodes. -/
theorem decodeFrame_ok {size : Nat} {body : List Byte → Except Reject Instr} {f : List Byte} {i : Instr}
    (h : decodeFrame size body f = .ok i) :
    5 ≤ f.length ∧ f.length ≤ size ∧ f = withCrc (f.take (f.length - 2)) ∧ body (f.take (f.length - 2)) = .ok i := by
  unfold decodeFrame at h
  split at h
  · cases h
  split at h
  · cases h
  split at h
  · cases h
  next hc => exact ⟨by omega, by omega, eq_withCrc_of_crcOk (by omega) (by revert hc; cases crcOk f <;> simp), h⟩

/-- The command code is bits [7:0] of the word written (R70). -/
theorem low8_ctrlBytes (c : Byte) : low8 (0#8 ++ 0#8 ++ 0#8 ++ c) = c := by
  apply BitVec.eq_of_getLsbD_eq
  intro i hi
  simp only [low8, BitVec.getLsbD_setWidth, BitVec.getLsbD_append]
  simp [hi]

/-- The four bytes of a word, put together again. -/
theorem append_bytesOfNat (x : Nat) :
    (BitVec.ofNat 8 (x / 256 / 256 / 256) ++ BitVec.ofNat 8 (x / 256 / 256) ++ BitVec.ofNat 8 (x / 256) ++ BitVec.ofNat 8 x : Word) =
      BitVec.ofNat 32 x := by
  apply BitVec.eq_of_toNat_eq
  simp only [BitVec.toNat_append, BitVec.toNat_ofNat]
  rw [← Nat.shiftLeft_add_eq_or_of_lt (by omega), ← Nat.shiftLeft_add_eq_or_of_lt (by omega),
    ← Nat.shiftLeft_add_eq_or_of_lt (by omega)]
  simp only [Nat.shiftLeft_eq]
  omega

end Sys2Proof
end

