-- ==== Sys2Proof/Laws/Memory.lean ====
section
/-! SUPPORT. The laws of the buffers and arrays: what a read gives after a write, and that every operation keeps the canonical
form. -/

namespace Sys2Proof.Machine

variable {w : Nat}

@[simp] theorem readCell_nil (i : Nat) : readCell ([] : Memory w) i = unlisted w := rfl

theorem readCell_cons (k : Nat) (v : BitVec w) (m : Memory w) (i : Nat) :
    readCell ((k, v) :: m) i = if k = i then v else readCell m i := rfl

@[simp] theorem Memory.wfFrom_nil (lo size : Nat) : Memory.wfFrom lo size ([] : Memory w) = true := rfl

@[simp] theorem Memory.wf_nil (size : Nat) : Memory.wf size ([] : Memory w) = true := rfl

theorem Memory.wfFrom_cons {lo size k : Nat} {v : BitVec w} {m : Memory w} :
    Memory.wfFrom lo size ((k, v) :: m) = true ↔
      lo ≤ k ∧ k < size ∧ v ≠ unlisted w ∧ Memory.wfFrom (k + 1) size m = true := by
  simp [Memory.wfFrom, and_assoc]

theorem Memory.wfFrom_mono {lo lo' size : Nat} {m : Memory w} (hl : lo' ≤ lo) (h : Memory.wfFrom lo size m = true) :
    Memory.wfFrom lo' size m = true := by
  cases m with
  | nil => rfl
  | cons e m =>
    obtain ⟨k, v⟩ := e
    rw [Memory.wfFrom_cons] at h ⊢
    exact ⟨by omega, h.2⟩

/-- Below the first index nothing is listed. -/
theorem readCell_below {lo size : Nat} {m : Memory w} (h : Memory.wfFrom lo size m = true) {i : Nat} (hi : i < lo) :
    readCell m i = unlisted w := by
  induction m generalizing lo with
  | nil => rfl
  | cons e m ih =>
    obtain ⟨k, v⟩ := e
    rw [Memory.wfFrom_cons] at h
    rw [readCell_cons, if_neg (by omega)]
    exact ih h.2.2.2 (by omega)

/-- Past the end nothing is listed. -/
theorem readCell_beyond {lo size : Nat} {m : Memory w} (h : Memory.wfFrom lo size m = true) {i : Nat} (hi : size ≤ i) :
    readCell m i = unlisted w := by
  induction m generalizing lo with
  | nil => rfl
  | cons e m ih =>
    obtain ⟨k, v⟩ := e
    rw [Memory.wfFrom_cons] at h
    rw [readCell_cons, if_neg (by omega)]
    exact ih h.2.2.2

theorem wfFrom_writeCell {lo size : Nat} {m : Memory w} (h : Memory.wfFrom lo size m = true) {i : Nat} (hlo : lo ≤ i)
    (hi : i < size) (v : BitVec w) : Memory.wfFrom lo size (writeCell m i v) = true := by
  induction m generalizing lo with
  | nil =>
    unfold writeCell
    split
    · rfl
    · simp [Memory.wfFrom_cons, *]
  | cons e m ih =>
    obtain ⟨k, u⟩ := e
    have hc := Memory.wfFrom_cons.mp h
    unfold writeCell
    split
    · split
      · exact h
      · rw [Memory.wfFrom_cons, Memory.wfFrom_cons]
        exact ⟨hlo, hi, ‹_›, by omega, hc.2⟩
    · split
      · split
        · exact Memory.wfFrom_mono (by omega) hc.2.2.2
        · exact Memory.wfFrom_cons.mpr ⟨hc.1, hc.2.1, ‹_›, hc.2.2.2⟩
      · exact Memory.wfFrom_cons.mpr ⟨hc.1, hc.2.1, hc.2.2.1, ih hc.2.2.2 (by omega)⟩

/-- A write keeps the canonical form. -/
theorem wf_writeCell {size : Nat} {m : Memory w} (h : Memory.wf size m = true) {i : Nat} (hi : i < size) (v : BitVec w) :
    Memory.wf size (writeCell m i v) = true :=
  wfFrom_writeCell h (Nat.zero_le i) hi v

theorem readCell_writeCell_from {lo size : Nat} {m : Memory w} (h : Memory.wfFrom lo size m = true) (i : Nat) (v : BitVec w)
    (j : Nat) : readCell (writeCell m i v) j = if i = j then v else readCell m j := by
  induction m generalizing lo with
  | nil =>
    unfold writeCell
    split
    · simp_all
    · rfl
  | cons e m ih =>
    obtain ⟨k, u⟩ := e
    have hc := (Memory.wfFrom_cons.mp h).2.2.2
    unfold writeCell
    split
    · next hik =>
      split
      · next hv =>
        split
        · next hij =>
          subst hij
          rw [readCell_cons, if_neg (by omega), readCell_below hc (by omega), hv]
        · rfl
      · rw [readCell_cons]
    · split
      · next hik =>
        subst hik
        split
        · next hv =>
          rw [readCell_cons]
          split
          · next hij => subst hij; rw [readCell_below hc (by omega), hv]
          · rfl
        · rw [readCell_cons, readCell_cons]
          split <;> rfl
      · rw [readCell_cons, readCell_cons, ih hc]
        split
        · rw [if_neg (by omega)]
        · rfl

/-- Read after write: the entry written, and no other, has the new value. -/
theorem readCell_writeCell {size : Nat} {m : Memory w} (h : Memory.wf size m = true) (i : Nat) (v : BitVec w) (j : Nat) :
    readCell (writeCell m i v) j = if i = j then v else readCell m j :=
  readCell_writeCell_from h i v j

@[simp] theorem memRead_zero (m : Memory w) (i : Nat) : memRead m i 0 = [] := rfl

@[simp] theorem memRead_length (m : Memory w) (i n : Nat) : (memRead m i n).length = n := by
  induction n generalizing i with
  | zero => rfl
  | succ n ih => simp [memRead, ih]

theorem memRead_getElem (m : Memory w) (i n j : Nat) (hj : j < (memRead m i n).length) :
    (memRead m i n)[j] = readCell m (i + j) := by
  induction n generalizing i j with
  | zero => simp at hj
  | succ n ih =>
    cases j with
    | zero => rfl
    | succ j =>
      have : (memRead m i (n + 1))[j + 1] = (memRead m (i + 1) n)[j]'(by simp at hj ⊢; omega) := rfl
      rw [this, ih]
      congr 1
      omega

/-- `memRead` depends only on the entries it reads. -/
theorem memRead_congr {m m' : Memory w} {i n : Nat} (h : ∀ j, i ≤ j → j < i + n → readCell m j = readCell m' j) :
    memRead m i n = memRead m' i n := by
  induction n generalizing i with
  | zero => rfl
  | succ n ih =>
    simp only [memRead]
    rw [h i (Nat.le_refl i) (by omega), ih fun j hj hj' => h j (by omega) (by omega)]

/-- A block write keeps the canonical form. -/
theorem wf_memWrite {size : Nat} {m : Memory w} (h : Memory.wf size m = true) {i : Nat} {vs : List (BitVec w)}
    (hi : i + vs.length ≤ size) : Memory.wf size (memWrite m i vs) = true := by
  induction vs generalizing m i with
  | nil => exact h
  | cons v vs ih =>
    simp only [List.length_cons] at hi
    exact ih (wf_writeCell h (by omega) v) (by omega)

/-- Read after a block write: the entries written have the new values, every other one its old value. -/
theorem readCell_memWrite {size : Nat} {m : Memory w} (h : Memory.wf size m = true) {i : Nat} {vs : List (BitVec w)}
    (hi : i + vs.length ≤ size) (j : Nat) :
    readCell (memWrite m i vs) j = if i ≤ j ∧ j < i + vs.length then vs.getD (j - i) (unlisted w) else readCell m j := by
  induction vs generalizing m i with
  | nil => rw [if_neg (by simp)]; rfl
  | cons v vs ih =>
    simp only [List.length_cons] at hi ⊢
    have hw := wf_writeCell h (show i < size by omega) v
    show readCell (memWrite (writeCell m i v) (i + 1) vs) j = _
    rw [ih hw (by omega), readCell_writeCell h]
    by_cases hij : i = j
    · subst hij
      rw [if_neg (by omega), if_pos rfl, if_pos (by omega)]
      simp
    · by_cases hr : i + 1 ≤ j ∧ j < i + 1 + vs.length
      · rw [if_pos hr, if_pos (by omega), show j - i = (j - (i + 1)) + 1 by omega]
        simp
      · rw [if_neg hr, if_neg hij, if_neg (by omega)]

/-- A block read back right after it was written. -/
theorem memRead_memWrite {size : Nat} {m : Memory w} (h : Memory.wf size m = true) {i : Nat} {vs : List (BitVec w)}
    (hi : i + vs.length ≤ size) : memRead (memWrite m i vs) i vs.length = vs := by
  apply List.ext_getElem
  · simp
  · intro n h1 h2
    rw [memRead_getElem, readCell_memWrite h hi, if_pos (by omega)]
    simp [h2]

/-- Two canonical memories that read alike are equal data. -/
theorem Memory.ext_of_wf {lo size : Nat} {m m' : Memory w} (h : Memory.wfFrom lo size m = true)
    (h' : Memory.wfFrom lo size m' = true) (heq : ∀ i, readCell m i = readCell m' i) : m = m' := by
  induction m generalizing lo m' with
  | nil =>
    cases m' with
    | nil => rfl
    | cons e m' =>
      obtain ⟨k, v⟩ := e
      have := heq k
      rw [readCell_cons, if_pos rfl] at this
      exact absurd this.symm (Memory.wfFrom_cons.mp h').2.2.1
  | cons e m ih =>
    obtain ⟨k, v⟩ := e
    have hc := Memory.wfFrom_cons.mp h
    cases m' with
    | nil =>
      have := heq k
      rw [readCell_cons, if_pos rfl] at this
      exact absurd this hc.2.2.1
    | cons e' m' =>
      obtain ⟨k', v'⟩ := e'
      have hc' := Memory.wfFrom_cons.mp h'
      have hk : k = k' := by
        rcases Nat.lt_trichotomy k k' with hlt | heq' | hgt
        · have := heq k
          rw [readCell_cons, if_pos rfl, readCell_cons, if_neg (by omega), readCell_below hc'.2.2.2 (by omega)] at this
          exact absurd this hc.2.2.1
        · exact heq'
        · have := heq k'
          rw [readCell_cons, if_neg (by omega), readCell_cons, if_pos rfl, readCell_below hc.2.2.2 (by omega)] at this
          exact absurd this.symm hc'.2.2.1
      subst hk
      have hv : v = v' := by simpa [readCell_cons] using heq k
      subst hv
      rw [ih hc.2.2.2 hc'.2.2.2]
      intro i
      by_cases hki : k = i
      · subst hki
        rw [readCell_below hc.2.2.2 (by omega), readCell_below hc'.2.2.2 (by omega)]
      · have := heq i
        rwa [readCell_cons, if_neg hki, readCell_cons, if_neg hki] at this

end Sys2Proof.Machine
end

