-- ==== Sys2Proof/Laws/Exchange.lean ====
section
/-! SUPPORT. What each shared operation of the controller can do, said once: an inversion for each operation that can answer a next
state. Later proofs cite these and do not unfold the operations. -/

namespace Sys2Proof.Machine

/-- The operands latched and the results cleared, as every acceptance does first (R162, R163). -/
abbrev latched (fc : Byte) (s : State) : State := clearResults (latch fc s)

theorem acceptExchange_cases (fc : Byte) (s : State) :
    (∃ f e, encodeLatched (latched fc s) = some (f, e) ∧
        acceptExchange fc s = startExchange (recordRequest f e (latched fc s))) ∨
      (encodeLatched (latched fc s) = none ∧ acceptExchange fc s = rejectRequest (latched fc s)) := by
  unfold acceptExchange
  cases h : encodeLatched (latched fc s) with
  | none => exact .inr ⟨rfl, by simp [h]⟩
  | some r => exact .inl ⟨r.1, r.2, rfl, by simp [h]⟩

theorem busy_iff {s : State} : busy s = true ↔ s.state = .sent ∨ s.state = .awaiting := by simp [busy]

theorem not_busy_iff {s : State} : busy s = false ↔ s.state = .idle ∨ s.state = .validated ∨ s.state = .failed := by
  unfold busy; cases s.state <;> decide

theorem done_iff {s : State} : done s = true ↔ s.state = .validated ∨ s.state = .failed := by simp [done]

/-- A timer after `units` have passed (R45, R216). -/
@[simp] theorem countDown_toNat (t : Word) (units : Nat) : (countDown t units).toNat = t.toNat - units := by
  have := t.isLt
  simp [countDown]
  omega

@[simp] theorem Info.codeOr_none (old : Byte) : Info.none.codeOr old = old := rfl
@[simp] theorem Info.codeOr_count (old : Byte) (n : Nat) : (Info.count n).codeOr old = old := rfl
@[simp] theorem Info.codeOr_code (old c : Byte) : (Info.code c).codeOr old = c := rfl

/-- The write step (R165, R166). -/
theorem writeTurn_cases {a : ChanAnswer} {s t : State} (h : writeTurn a s = .next t) :
    (s.chOpen = false ∧ t = raise .transportError .none s) ∨
      (s.chOpen = true ∧ s.txLen.toNat ≤ Config.txbufSize ∧
        ((a = .done s.txLen.toNat ∧
            t = { s with written := s.written ++ [memRead s.txbuf 0 s.txLen.toNat], sentPh := .settle, settleT := s.lSettle }) ∨
          (a ≠ .done s.txLen.toNat ∧
            t = raise .transportError .none { s with written := s.written ++ [memRead s.txbuf 0 s.txLen.toNat] }))) := by
  unfold writeTurn at h
  split at h
  · cases h; exact .inl ⟨‹_›, rfl⟩
  · split at h
    · cases h
    · refine .inr ⟨by simpa using ‹¬ s.chOpen = false›, by omega, ?_⟩
      split at h
      · cases h; exact .inl ⟨‹_›, rfl⟩
      · cases h; exact .inr ⟨‹_›, rfl⟩

/-- The settle step (R167, R168). -/
theorem settleTurn_cases {s t : State} (h : settleTurn s = .next t) :
    (s.settleT = 0#32 ∧ t = { s with state := .awaiting, timeoutT := s.lTimeout }) ∨ (s.settleT ≠ 0#32 ∧ t = s) := by
  unfold settleTurn at h
  split at h
  · cases h; exact .inl ⟨‹_›, rfl⟩
  · cases h; exact .inr ⟨‹_›, rfl⟩

/-- The validator's verdict on a captured reply (R170). -/
abbrev verdictOn (c : State) : Option Verdict :=
  validate (memRead c.txbuf 0 c.txLen.toNat) c.expLen.toNat (memRead c.rxbuf 0 c.rxCount.toNat)

/-- Read completion (R169 to R171): VALIDATED or FAILED. -/
theorem completeRead_cases {r : List Byte} {s t : State} (h : completeRead r s = .next t) :
    r.length ≤ Config.rxbufSize ∧ s.txLen.toNat ≤ Config.txbufSize ∧
      ((∃ vs, verdictOn (capture r s) = some (.ok vs) ∧ vs.length ≤ Config.maxReadQty ∧ t = complete vs (capture r s)) ∨
        (∃ st info, verdictOn (capture r s) = some (.fail st info) ∧ t = raise st info (capture r s))) := by
  unfold completeRead at h
  split at h
  · cases h
  · refine ⟨by omega, by omega, ?_⟩
    simp only [recordVerdict] at h
    split at h
    · cases h
    · next st info hv => cases h; exact .inr ⟨st, info, hv, rfl⟩
    · next vs hv =>
      split at h
      · cases h
      · cases h; exact .inl ⟨vs, hv, by omega, rfl⟩

/-- The bytes a read returns (R55, R181) are at most EXP_LEN. -/
theorem take_expLen_length (s : State) : (s.inputQueue.take s.expLen.toNat).length ≤ s.expLen.toNat := by
  simp

/-- The read step (R169, R181). -/
theorem readTurn_cases {a : ChanAnswer} {s t : State} (h : readTurn a s = .next t) :
    ((a = .err ∨ s.chOpen = false) ∧ t = raise .transportError .none s) ∨
      (a ≠ .err ∧ s.chOpen = true ∧
        (((replyComplete s = true ∨ s.timeoutT = 0#32) ∧ takeReply s = .next t) ∨
          (replyComplete s = false ∧ s.timeoutT ≠ 0#32 ∧ t = s))) := by
  unfold readTurn at h
  split at h
  · cases h; exact .inl ⟨‹_›, rfl⟩
  · next hne =>
    rw [not_or] at hne
    refine .inr ⟨hne.1, by simpa using hne.2, ?_⟩
    split at h
    · exact .inl ⟨‹_›, h⟩
    · next hr =>
      rw [not_or] at hr
      cases h
      exact .inr ⟨by simpa using hr.1, hr.2, rfl⟩

/-- Delivery with no read in progress: the bytes wait (R49). -/
theorem deliver_waits {b : List Byte} {s : State} (h : s.state ≠ .awaiting) : deliver b s = .next (arrive b s) := by
  simp [deliver, h]

/-- Delivery to a read in progress, the channel open: the read ends with what is waiting. -/
theorem deliver_reads {b : List Byte} {s : State} (h : s.state = .awaiting) (ho : s.chOpen = true) :
    deliver b s = takeReply (awaitEnd (arrive b s)) := by
  simp [deliver, h, ho]

/-- Delivery to a read in progress on a closed channel. -/
theorem deliver_closed {b : List Byte} {s : State} (h : s.state = .awaiting) (ho : s.chOpen = false) :
    deliver b s = .next (raise .transportError .none (arrive b s)) := by
  simp [deliver, h, ho]

/-- The engine's turn (R160): quiescent, or one of the three steps. -/
theorem engineTurn_cases {a : ChanAnswer} {s t : State} (h : engineTurn a s = .next t) :
    (busy s = false ∧ t = s) ∨ (s.state = .sent ∧ s.sentPh = .write ∧ writeTurn a s = .next t) ∨
      (s.state = .sent ∧ s.sentPh = .settle ∧ settleTurn s = .next t) ∨ (s.state = .awaiting ∧ readTurn a s = .next t) := by
  unfold engineTurn at h
  split at h
  · cases h; exact .inl ⟨by simp [busy, *], rfl⟩
  · exact .inr (.inl ⟨‹_›, ‹_›, h⟩)
  · exact .inr (.inr (.inl ⟨‹_›, ‹_›, h⟩))
  · exact .inr (.inr (.inr ⟨‹_›, h⟩))
  · cases h; exact .inl ⟨by simp [busy, *], rfl⟩
  · cases h; exact .inl ⟨by simp [busy, *], rfl⟩

end Sys2Proof.Machine
end

