-- ==== Sys2Proof/Laws/HostRegs.lean ====
section
/-! SUPPORT. The register map and STAT, said once: which index selects which array entry, that no two indices select one register,
and where each field of STAT stands. -/

namespace Sys2Proof.Machine

/-- Only index 0 is CTRL (R22). -/
theorem hostReg_eq_ctrl : ∀ {idx : RegIndex}, hostReg idx = .ctrl ↔ idx = 0#10 := by
  decide +kernel

/-- WDATA[i] (R40). -/
theorem hostReg_wdata {idx : RegIndex} {i : Nat} (hi : i < 123) (h : idx.toNat = 0x100 + i) : hostReg idx = .wdata i := by
  unfold hostReg
  simp only [h]
  iterate 13 rw [if_neg (by omega)]
  rw [if_pos (by simp only [Config.maxWriteQty]; omega)]
  simp

/-- RDATA[i] (R41). -/
theorem hostReg_rdata {idx : RegIndex} {i : Nat} (hi : i < 125) (h : idx.toNat = 0x200 + i) : hostReg idx = .rdata i := by
  unfold hostReg
  simp only [h]
  iterate 13 rw [if_neg (by omega)]
  rw [if_neg (by simp only [Config.maxWriteQty]; omega), if_pos (by simp only [Config.maxReadQty]; omega)]
  simp

/-- Every index of WDATA selects an entry the array has. -/
theorem hostReg_wdata_lt {idx : RegIndex} {i : Nat} (h : hostReg idx = .wdata i) : i < Config.maxWriteQty := by
  have key : ∀ idx : RegIndex, (match hostReg idx with | .wdata i => decide (i < Config.maxWriteQty) | _ => true) = true := by
    decide +kernel
  have hk := key idx
  rw [h] at hk
  simpa using hk

/-- The index of a register. -/
def regIndexOf : HostReg → Nat
  | .ctrl => 0x000
  | .pSlave => 0x001
  | .pReg => 0x002
  | .pQty => 0x003
  | .pValue => 0x004
  | .crcIn => 0x005
  | .cfgSettle => 0x006
  | .cfgTimeout => 0x007
  | .stat => 0x008
  | .rxCount => 0x009
  | .crcAcc => 0x00A
  | .expLen => 0x00B
  | .txLen => 0x00C
  | .wdata i => 0x100 + i
  | .rdata i => 0x200 + i
  | .unmapped => 0

/-- Two indices never select one mapped register. -/
theorem hostReg_injective {i j : RegIndex} (hij : i ≠ j) (hu : hostReg i ≠ .unmapped) : hostReg i ≠ hostReg j := by
  have key : ∀ k : RegIndex, hostReg k ≠ .unmapped → regIndexOf (hostReg k) = k.toNat := by decide +kernel
  intro he
  exact hij (BitVec.eq_of_toNat_eq (by rw [← key i hu, he, key j (he ▸ hu)]))

/-- The fields of a word laid out as STAT (R31). -/
theorem statLayout_fields (dn bs ov rv : Bool) (ec : Byte) (st : BitVec 4) (ph : BitVec 3) :
    let v := 0#12 ++ BitVec.ofBool dn ++ BitVec.ofBool bs ++ BitVec.ofBool ov ++ BitVec.ofBool rv ++ ec ++ st ++ 0#1 ++ ph
    v.extractLsb' 0 3 = ph ∧ v.extractLsb' 4 4 = st ∧ v.extractLsb' 8 8 = ec ∧ v.getLsbD 16 = rv ∧ v.getLsbD 17 = ov ∧
      v.getLsbD 18 = bs ∧ v.getLsbD 19 = dn ∧ v.getLsbD 3 = false ∧ v.extractLsb' 20 12 = 0#12 := by
  simp only
  refine ⟨?_, ?_, ?_, ?_, ?_, ?_, ?_, ?_, ?_⟩
  · apply BitVec.eq_of_getLsbD_eq
    intro i hi
    simp only [BitVec.getLsbD_extractLsb', BitVec.getLsbD_append]
    simp [hi]
  · apply BitVec.eq_of_getLsbD_eq
    intro i hi
    simp only [BitVec.getLsbD_extractLsb', BitVec.getLsbD_append]
    simp [show ¬ 4 + i < 3 by omega, show ¬ 4 + i - 3 < 1 by omega, show 4 + i - 3 - 1 = i by omega, hi]
  · apply BitVec.eq_of_getLsbD_eq
    intro i hi
    simp only [BitVec.getLsbD_extractLsb', BitVec.getLsbD_append]
    simp [show ¬ 8 + i < 3 by omega, show ¬ 8 + i - 3 < 1 by omega, show ¬ 8 + i - 3 - 1 < 4 by omega,
      show 8 + i - 3 - 1 - 4 = i by omega, hi]
  · simp only [BitVec.getLsbD_append]; simp
  · simp only [BitVec.getLsbD_append]; simp
  · simp only [BitVec.getLsbD_append]; simp
  · simp only [BitVec.getLsbD_append]; simp
  · simp only [BitVec.getLsbD_append]; simp
  · apply BitVec.eq_of_getLsbD_eq
    intro i hi
    simp only [BitVec.getLsbD_extractLsb', BitVec.getLsbD_append]
    simp [show ¬ 20 + i < 3 by omega, show ¬ 20 + i - 3 < 1 by omega, show ¬ 20 + i - 3 - 1 < 4 by omega,
      show ¬ 20 + i - 3 - 1 - 4 < 8 by omega, show ¬ 20 + i - 3 - 1 - 4 - 8 < 1 by omega,
      show ¬ 20 + i - 3 - 1 - 4 - 8 - 1 < 1 by omega, show ¬ 20 + i - 3 - 1 - 4 - 8 - 1 - 1 < 1 by omega,
      show ¬ 20 + i - 3 - 1 - 4 - 8 - 1 - 1 - 1 < 1 by omega]

end Sys2Proof.Machine
end

