-- ==== Sys2Proof/Laws/PerInstr.lean ====
section
/-! SUPPORT. The family EncodedSize: how many bytes a well-formed instruction of each format takes, one lemma for each
instruction. -/

namespace Sys2Proof.Laws.EncodedSize

open Sys2Proof.Machine

/-- A CTRL write is 4 bytes (R70); a request is 8 to 255 bytes, within TXBUF (R75 to R77, R43); a response is 5 to 255 bytes, within
RXBUF (R78 to R81, R44). -/
def Statement (i : Instr) : Prop :=
  wellFormed i = true →
    (formatOf i = .ctrl → (encode i).length = 4) ∧
      (formatOf i = .request → 8 ≤ (encode i).length ∧ (encode i).length ≤ Config.txbufSize) ∧
      (formatOf i = .response → 5 ≤ (encode i).length ∧ (encode i).length ≤ Config.rxbufSize)

theorem readRegisters : Statement .readRegisters := fun _ => ⟨fun _ => rfl, nofun, nofun⟩

theorem readRegister : Statement .readRegister := fun _ => ⟨fun _ => rfl, nofun, nofun⟩

theorem writeRegister : Statement .writeRegister := fun _ => ⟨fun _ => rfl, nofun, nofun⟩

theorem writeRegisters : Statement .writeRegisters := fun _ => ⟨fun _ => rfl, nofun, nofun⟩

theorem crcInit : Statement .crcInit := fun _ => ⟨fun _ => rfl, nofun, nofun⟩

theorem crcByte : Statement .crcByte := fun _ => ⟨fun _ => rfl, nofun, nofun⟩

theorem clear : Statement .clear := fun _ => ⟨fun _ => rfl, nofun, nofun⟩

theorem reservedCmd (code : Byte) : Statement (.reservedCmd code) := fun _ => ⟨fun _ => rfl, nofun, nofun⟩

theorem rtuReqReadHolding (slave : Byte) (start qty : HalfWord) : Statement (.rtuReqReadHolding slave start qty) :=
  fun _ => ⟨nofun, fun _ => by simp [encode, Config.txbufSize, Config.maxWriteQty], nofun⟩

theorem rtuReqWriteSingle (slave : Byte) (reg value : HalfWord) : Statement (.rtuReqWriteSingle slave reg value) :=
  fun _ => ⟨nofun, fun _ => by simp [encode, Config.txbufSize, Config.maxWriteQty], nofun⟩

theorem rtuReqWriteMultiple (slave : Byte) (start : HalfWord) (values : List HalfWord) :
    Statement (.rtuReqWriteMultiple slave start values) := by
  intro h
  simp only [wellFormed, Bool.and_eq_true, writeQtyOk_iff] at h
  exact ⟨nofun, fun _ => by simp only [encode, writeMultipleFrame_length, Config.txbufSize, Config.maxWriteQty]; omega, nofun⟩

theorem rtuRspReadHolding (slave byteCount : Byte) (values : List HalfWord) :
    Statement (.rtuRspReadHolding slave byteCount values) := by
  intro h
  simp only [wellFormed, readQtyOk_iff] at h
  exact ⟨nofun, nofun, fun _ => by simp only [encode, readReplyFrame_length, Config.rxbufSize, Config.maxReadQty]; omega⟩

theorem rtuRspWriteSingle (slave : Byte) (reg value : HalfWord) : Statement (.rtuRspWriteSingle slave reg value) :=
  fun _ => ⟨nofun, nofun, fun _ => by simp [encode, Config.rxbufSize, Config.maxReadQty]⟩

theorem rtuRspWriteMultiple (slave : Byte) (start qty : HalfWord) : Statement (.rtuRspWriteMultiple slave start qty) :=
  fun _ => ⟨nofun, nofun, fun _ => by simp [encode, Config.rxbufSize, Config.maxReadQty]⟩

theorem rtuRspException (slave fc code : Byte) (rest : List Byte) : Statement (.rtuRspException slave fc code rest) := by
  intro h
  simp only [wellFormed, Bool.and_eq_true, decide_eq_true_eq] at h
  exact ⟨nofun, nofun, fun _ => by simp only [encode, exceptionFrame_length]; omega⟩

end Sys2Proof.Laws.EncodedSize
end

