-- ==== Sys2Proof/Laws/Step.lean ====
section
/-! SUPPORT. What one step can do, said once: `step_move` turns a step's next state into one of the moves below. Whole-machine
proofs split on `Move` and do not unfold the step. -/

namespace Sys2Proof.Machine

@[simp] theorem step_nil {s : State} (h : s.events = []) : step s = .next s := by simp [step, h]

theorem step_cons {s : State} {e : Event} {rest : List Event} (h : s.events = e :: rest) :
    step s = react e { s with events := rest } := by simp [step, h]

/-- A run goes on from the next state. -/
theorem run_succ_next {n : Nat} {s t : State} (h : step s = .next t) :
    Host.Core.run core (n + 1) s = Host.Core.run core n t := by
  have h' : core.step s = .next t := h
  simp only [Host.Core.run, h']

/-- Six codes are assigned; what each decodes to (R71, R72). -/
theorem decodeCommand_cases (c : Byte) :
    (c = 0x03#8 ∧ decodeCommand c = .readRegisters) ∨ (c = 0x06#8 ∧ decodeCommand c = .writeRegister) ∨
      (c = 0x10#8 ∧ decodeCommand c = .writeRegisters) ∨ (c = 0x20#8 ∧ decodeCommand c = .crcInit) ∨
      (c = 0x21#8 ∧ decodeCommand c = .crcByte) ∨ (c = 0x2F#8 ∧ decodeCommand c = .clear) ∨
      (c ∉ assignedCodes ∧ decodeCommand c = .reservedCmd c) := by
  unfold decodeCommand assignedCodes
  by_cases h3 : c = 0x03#8
  · simp [h3]
  by_cases h6 : c = 0x06#8
  · simp [h6]
  by_cases h10 : c = 0x10#8
  · simp [h10]
  by_cases h20 : c = 0x20#8
  · simp [h20]
  by_cases h21 : c = 0x21#8
  · simp [h21]
  by_cases h2f : c = 0x2F#8
  · simp [h2f]
  simp [*]

/-- A response frame runs as a delivery of its bytes. -/
theorem exec_response {i : Instr} (h : formatOf i = .response) (s : State) : exec i s = deliver (encode i) s := by
  cases i <;> first | rfl | cases h

theorem decodeResponseBody_format {m : List Byte} {i : Instr} (h : decodeResponseBody m = .ok i) : formatOf i = .response := by
  unfold decodeResponseBody at h
  repeat' split at h
  all_goals first | (cases h; rfl) | cases h

theorem decode_response_format {bs : List Byte} {i : Instr} (h : decode .response bs = .ok i) : formatOf i = .response := by
  simp only [decode, decodeFrame] at h
  repeat' split at h
  all_goals first | exact decodeResponseBody_format h | cases h

/-- What the channel's reply does: some bytes are delivered. -/
theorem channelReply_delivers (b : List Byte) (s : State) : ∃ b', channelReply b s = deliver b' s := by
  unfold channelReply
  split
  · next i h => exact ⟨encode i, exec_response (decode_response_format h) s⟩
  · exact ⟨b, rfl⟩

/-- The event is a host write to CTRL of command code `c`. -/
def IsCommand (c : Byte) (e : Option Event) : Prop := ∃ v, e = some (.host (.write 0#10 v)) ∧ low8 v = c

/-- The moves of one step on event `e`, from the state with the event taken off. -/
inductive Move (e : Option Event) (s : State) : State → Prop where
  /-- Nothing moves: no event, a quiescent engine, a settle delay or a read still running. -/
  | stay : Move e s s
  /-- A host write that stores (R22). -/
  | hostWrite (v : Word) (idx : RegIndex) (hr : hostReg idx ≠ .ctrl) : Move e s (writeReg v s (hostReg idx))
  /-- A host read (R51). -/
  | hostRead (d : Word) : Move e s { s with hostData := d }
  /-- CRC_INIT (R105). -/
  | crcInit (he : IsCommand 0x20#8 e) : Move e s { s with crcAcc := Config.crcInit }
  /-- CRC_BYTE (R106). -/
  | crcByte (he : IsCommand 0x21#8 e) : Move e s { s with crcAcc := crcByte s.crcAcc s.crcIn }
  /-- A command while busy (R161). -/
  | overrun (hb : busy s = true) : Move e s (overrunOnly s)
  /-- An exchange accepted (R162). -/
  | accept (fc : Byte) (f : List Byte) (n : HalfWord) (he : IsCommand fc e) (hb : busy s = false)
      (hf : encodeLatched (latched fc s) = some (f, n)) : Move e s (startExchange (recordRequest f n (latched fc s)))
  /-- An exchange command with invalid parameters (R164). -/
  | reject (fc : Byte) (he : IsCommand fc e) (hb : busy s = false) : Move e s (rejectRequest (latched fc s))
  /-- A reserved code (R179). -/
  | reserved (hb : busy s = false) : Move e s (rejectRequest (clearResults s))
  /-- CLEAR (R178). -/
  | clear (he : IsCommand 0x2F#8 e) (hb : busy s = false) : Move e s (clearAll s)
  /-- The write step on a closed channel (R165). -/
  | closed (hs : s.state = .sent) (hp : s.sentPh = .write) : Move e s (raise .transportError .none s)
  /-- The write step, the whole frame written (R166). -/
  | wrote (hs : s.state = .sent) (hp : s.sentPh = .write) (ho : s.chOpen = true) :
      Move e s { s with written := s.written ++ [memRead s.txbuf 0 s.txLen.toNat], sentPh := .settle, settleT := s.lSettle }
  /-- The write step, a short or failed write (R166). -/
  | writeFailed (hs : s.state = .sent) (hp : s.sentPh = .write) (ho : s.chOpen = true) :
      Move e s (raise .transportError .none { s with written := s.written ++ [memRead s.txbuf 0 s.txLen.toNat] })
  /-- The settle step (R168). -/
  | issueRead (hs : s.state = .sent) (hp : s.sentPh = .settle) (h0 : s.settleT = 0#32) :
      Move e s { s with state := .awaiting, timeoutT := s.lTimeout }
  /-- The read answers ERR (R169). -/
  | readError (q : List Byte) (hs : s.state = .awaiting) : Move e s (raise .transportError .none { s with inputQueue := q })
  /-- The read ends, the validator says OK (R170, R171). -/
  | validated (r q : List Byte) (tt : Word) (vs : List HalfWord) (hs : s.state = .awaiting) (hl : r.length ≤ s.expLen.toNat)
      (hr : r.length ≤ Config.rxbufSize) (hv : verdictOn (capture r (readEnd q tt s)) = some (.ok vs))
      (hn : vs.length ≤ Config.maxReadQty) : Move e s (complete vs (capture r (readEnd q tt s)))
  /-- The read ends, the validator says FAIL (R170). -/
  | failed (r q : List Byte) (tt : Word) (st : Status) (info : Info) (hs : s.state = .awaiting)
      (hl : r.length ≤ s.expLen.toNat) (hr : r.length ≤ Config.rxbufSize)
      (hv : verdictOn (capture r (readEnd q tt s)) = some (.fail st info)) : Move e s (raise st info (capture r (readEnd q tt s)))
  /-- The input queue changes (R49, R238). -/
  | queue (q : List Byte) : Move e s { s with inputQueue := q }
  /-- CH_OPEN changes (R46). -/
  | chOpen (b : Bool) : Move e s { s with chOpen := b }
  /-- Time passes (R216). -/
  | elapse (n : Nat) : Move e s (elapse n s)
  /-- RST (R230). -/
  | reset (he : e = some .reset) : Move e s (resetEngine s)

theorem takeReply_move {e : Option Event} {s t : State} (q : List Byte) (tt : Word) (hs : s.state = .awaiting)
    (h : takeReply { s with inputQueue := q, timeoutT := tt } = .next t) : Move e s t := by
  have hl := take_expLen_length { s with inputQueue := q, timeoutT := tt }
  obtain ⟨h1, -, ⟨vs, hv, hn, rfl⟩ | ⟨st, info, hv, rfl⟩⟩ := completeRead_cases h
  · exact .validated _ _ tt vs hs hl h1 hv hn
  · exact .failed _ _ tt st info hs hl h1 hv

theorem deliver_move {e : Option Event} {b : List Byte} {s t : State} (h : deliver b s = .next t) : Move e s t := by
  by_cases hs : s.state = .awaiting
  · by_cases ho : s.chOpen = true
    · rw [deliver_reads hs ho] at h
      unfold awaitEnd at h
      split at h
      · exact takeReply_move (s.inputQueue ++ b) s.timeoutT hs h
      · exact takeReply_move (s.inputQueue ++ b) 0#32 hs h
    · rw [deliver_closed hs (by simpa using ho)] at h
      cases h
      exact .readError _ hs
  · rw [deliver_waits hs] at h
    cases h
    exact .queue _

theorem exchangeCommand_move {e : Option Event} {fc : Byte} (he : IsCommand fc e) (s : State) :
    Move e s (exchangeCommand fc s) := by
  unfold exchangeCommand
  by_cases hb : busy s = true
  · rw [if_pos hb]; exact .overrun hb
  · rw [if_neg hb]
    obtain ⟨f, n, hn, ht⟩ | ⟨-, ht⟩ := acceptExchange_cases fc s
    · rw [ht]; exact .accept fc f n he (by simpa using hb) hn
    · rw [ht]; exact .reject fc he (by simpa using hb)

theorem command_move {e : Option Event} {c : Byte} {s t : State} (he : IsCommand c e)
    (h : exec (decodeCommand c) s = .next t) : Move e s t := by
  obtain ⟨rfl, hd⟩ | ⟨rfl, hd⟩ | ⟨rfl, hd⟩ | ⟨rfl, hd⟩ | ⟨rfl, hd⟩ | ⟨rfl, hd⟩ | ⟨-, hd⟩ := decodeCommand_cases c <;>
    rw [hd] at h
  · cases h; exact exchangeCommand_move he s
  · cases h; exact exchangeCommand_move he s
  · cases h; exact exchangeCommand_move he s
  · cases h; exact .crcInit he
  · cases h; exact .crcByte he
  · cases h
    cases hb : busy s
    · exact .clear he hb
    · exact .overrun hb
  · cases h
    cases hb : busy s
    · exact .reserved hb
    · exact .overrun hb

theorem hostAccess_move {a : HostAccess} {s t : State} (h : hostAccess a s = .next t) : Move (some (.host a)) s t := by
  cases a with
  | write idx v =>
    simp only [hostAccess] at h
    split at h
    · next hr => exact command_move ⟨v, by rw [hostReg_eq_ctrl.mp hr], rfl⟩ h
    · next hr => cases h; exact .hostWrite v idx hr
  | read idx => cases h; exact .hostRead _

theorem engineTurn_move {e : Option Event} {a : ChanAnswer} {s t : State} (h : engineTurn a s = .next t) : Move e s t := by
  obtain ⟨-, rfl⟩ | ⟨hs, hp, h⟩ | ⟨hs, hp, h⟩ | ⟨hs, h⟩ := engineTurn_cases h
  · exact .stay
  · obtain ⟨-, rfl⟩ | ⟨ho, -, ⟨-, rfl⟩ | ⟨-, rfl⟩⟩ := writeTurn_cases h
    · exact .closed hs hp
    · exact .wrote hs hp ho
    · exact .writeFailed hs hp ho
  · obtain ⟨h0, rfl⟩ | ⟨-, rfl⟩ := settleTurn_cases h
    · exact .issueRead hs hp h0
    · exact .stay
  · obtain ⟨-, rfl⟩ | ⟨-, -, ⟨-, h⟩ | ⟨-, -, rfl⟩⟩ := readTurn_cases h
    · exact .readError s.inputQueue hs
    · exact takeReply_move s.inputQueue s.timeoutT hs h
    · exact .stay

theorem react_move {e : Event} {s t : State} (h : react e s = .next t) : Move (some e) s t := by
  cases e with
  | host a => exact hostAccess_move h
  | engine a => exact engineTurn_move h
  | reply b =>
    obtain ⟨b', hb⟩ := channelReply_delivers b s
    exact deliver_move (hb.symm.trans h)
  | arrive b => cases h; exact .queue _
  | drain n => cases h; exact .queue _
  | channelOpen b => cases h; exact .chOpen b
  | elapse n => cases h; exact .elapse n
  | reset => cases h; exact .reset rfl

/-- What one step can do. -/
theorem step_move {s t : State} (h : step s = .next t) : Move s.events.head? (popEvent s) t := by
  cases he : s.events with
  | nil =>
    rw [step_nil he] at h
    cases h
    have : popEvent s = s := by cases s; simp_all [popEvent]
    rw [this]
    exact .stay
  | cons e rest =>
    rw [step_cons he] at h
    rw [popEvent, he]
    exact react_move h

end Sys2Proof.Machine
end

