-- ==== Sys2Proof/Laws/Validator.lean ====
section
/-! SUPPORT. What the validator can say, what a capture holds, and what the request in TXBUF holds, said once. -/

namespace Sys2Proof

open Machine

/-- A capture reads back (R53). -/
theorem rxFrame_capture {s : State} (h : Memory.wf Config.rxbufSize s.rxbuf = true) {r : List Byte}
    (hr : r.length ≤ Config.rxbufSize) : rxFrame (capture r s) = r ∧ (capture r s).rxCount.toNat = r.length := by
  have h1 : (capture r s).rxCount.toNat = r.length := by
    simp [Config.rxbufSize, Config.maxReadQty] at hr ⊢
    omega
  refine ⟨?_, h1⟩
  rw [rxFrame, h1, capture_rxbuf, memRead_memWrite h (by omega)]

/-- The verdict recorded is the validator's on the request held and the bytes read (R170). -/
theorem verdictOn_capture {s : State} (h : Memory.wf Config.rxbufSize s.rxbuf = true) {r : List Byte}
    (hr : r.length ≤ Config.rxbufSize) : verdictOn (capture r s) = validate (txFrame s) s.expLen.toNat r := by
  have h1 := (rxFrame_capture h hr).1
  rw [rxFrame] at h1
  rw [verdictOn, h1]
  rfl

/-- Every verdict the validator gives, with what it says of the length (R131). -/
theorem validate_cases {req r : List Byte} {exp : Nat} {v : Verdict} (h : validate req exp r = some v) :
    (r.length < exp ∧ v = .fail .incompleteResponse (.count r.length)) ∨
      (r.length = exp ∧
        (v = .fail .checksumMismatch .none ∨ v = .fail .exceptionResponse (.code (byteAt r 2)) ∨ v = .fail .echoMismatch .none ∨
          ((byteAt req 1 = 0x06#8 ∨ byteAt req 1 = 0x10#8) ∧ v = .ok []) ∨
          (byteAt req 1 ≠ 0x06#8 ∧ byteAt req 1 ≠ 0x10#8 ∧
            v = .ok (decodeValues (be16 (byteAt req 4) (byteAt req 5)).toNat r)))) := by
  unfold validate judgeException judgeWriteSingle judgeWriteMultiple judgeRead at h
  split at h
  · cases h
  split at h
  · cases h; exact .inl ⟨‹_›, rfl⟩
  refine .inr ⟨by omega, ?_⟩
  split at h
  · cases h; exact .inl rfl
  split at h
  · cases h; exact .inr (.inl rfl)
  split at h
  · cases h
    split
    · exact .inr (.inr (.inr (.inl ⟨.inl ‹_›, rfl⟩)))
    · exact .inr (.inr (.inl rfl))
  split at h
  · cases h
    split
    · exact .inr (.inr (.inr (.inl ⟨.inr ‹_›, rfl⟩)))
    · exact .inr (.inr (.inl rfl))
  · cases h
    split
    · exact .inr (.inr (.inl rfl))
    · exact .inr (.inr (.inr (.inr ⟨‹_›, ‹_›, rfl⟩)))

/-- The function code, the address and the quantity stand in the request held (R75 to R77). -/
theorem HoldsRequest.header {s : State} (h : HoldsRequest s) :
    (s.lFc = 0x03#8 ∨ s.lFc = 0x06#8 ∨ s.lFc = 0x10#8) ∧ byteAt (txFrame s) 0 = s.lSlave ∧ byteAt (txFrame s) 1 = s.lFc ∧
      (s.lFc = 0x03#8 → be16 (byteAt (txFrame s) 4) (byteAt (txFrame s) 5) = s.lQty) := by
  unfold HoldsRequest encodeLatched at h
  have hh := encodeRequest_header h
  have key : ∀ i, i < 6 → byteAt (txFrame s) i = byteAt ((txFrame s).take 6) i := by
    intro i hi
    simp [byteAt, hi]
  obtain ⟨-, h'⟩ := encodeRequest_cases h
  refine ⟨?_, by rw [key 0 (by omega), hh]; rfl, by rw [key 1 (by omega), hh]; rfl, fun h3 => ?_⟩
  · rcases h' with h | h | h
    · exact .inl h.1
    · exact .inr (.inl h.1)
    · exact .inr (.inr h.1)
  · rw [key 4 (by omega), key 5 (by omega), hh, h3]
    simp [byteAt]

/-- The request held is a function of the latches, TXBUF, TX_LEN and EXP_LEN. -/
theorem HoldsRequest.congr {s t : State} (h : HoldsRequest s) (h1 : t.lFc = s.lFc) (h2 : t.lSlave = s.lSlave) (h3 : t.lReg = s.lReg)
    (h4 : t.lQty = s.lQty) (h5 : t.lValue = s.lValue) (h6 : t.lWdata = s.lWdata) (h7 : t.txbuf = s.txbuf)
    (h8 : t.txLen = s.txLen) (h9 : t.expLen = s.expLen) : HoldsRequest t := by
  unfold HoldsRequest encodeLatched txFrame at *
  rw [h1, h2, h3, h4, h5, h6, h7, h8, h9]
  exact h

/-- Exchanges with equal latches hold the same request (R110, R183). -/
theorem SameExchange.frame {s t : State} (e : SameExchange s t) (hs : HoldsRequest s) (ht : HoldsRequest t) :
    txFrame t = txFrame s ∧ t.expLen = s.expLen := by
  have key : encodeLatched t = encodeLatched s := by
    unfold encodeLatched encodeRequest
    rw [e.fc, e.slave, e.reg, e.qty, e.value]
    by_cases hf : s.lFc = 0x10#8
    · have hm : (List.range s.lQty.toNat).map (readCell t.lWdata) = (List.range s.lQty.toNat).map (readCell s.lWdata) :=
        List.map_congr_left fun k hk => e.wdata hf k (by simpa using hk)
      simp [buildWriteMultiple, hm]
    · simp [hf]
  have h := ht.symm.trans (key.trans hs)
  simpa using h

theorem SameExchange.busy {s t : State} (e : SameExchange s t) : Machine.busy t = Machine.busy s := by
  simp [Machine.busy, e.state]

/-- While an exchange runs its request is held and no result shows (R110, R163, R235). -/
theorem Inv.running {s : State} (h : Inv s) (ha : busy s = true) :
    HoldsRequest s ∧ s.status = .none ∧ s.excCode = 0#8 ∧ s.rxCount = 0#16 ∧ s.rdataValid = false := by
  rw [busy_iff] at ha
  have hd : done s = false := by rcases ha with ha | ha <;> simp [done, ha]
  obtain ⟨h1, h2, h3⟩ := h.notDone hd
  refine ⟨h.request (by rcases ha with ha | ha <;> simp [ha]) (by simp [h1]), h1, h2, h3, ?_⟩
  cases hr : s.rdataValid
  · rfl
  · have hv := (h.rdataValidIff.mp hr).1
    rcases ha with ha | ha <;> simp [ha] at hv

/-- Two exchanges in progress show no result yet, so their results agree (R235). -/
theorem SameExchange.result {s t : State} (e : SameExchange s t) (hs : Inv s) (ht : Inv t) (hb : Machine.busy s = true) :
    SameResult s t := by
  obtain ⟨-, n1, n2, n3, n4⟩ := hs.running hb
  obtain ⟨-, m1, m2, m3, m4⟩ := ht.running (e.busy.trans hb)
  exact ⟨e.state, by rw [n1, m1], by rw [n2, m2], by rw [n3, m3], by rw [n4, m4], by simp [n4]⟩

end Sys2Proof
end

