-- ==== Sys2Proof/Tests/Slice0.lean ====
section
/-! SUPPORT. Tests. Expected values come from spec/95_test_vectors.md (V1 to V7, CRC1 to CRC12, E1 to E18, D1 to D4, X1 to X18, P1
to P5) and from the rules named. The second half holds a witness for each statement with hypotheses. -/

namespace Sys2Proof.Tests

open Sys2Proof Sys2Proof.Machine

/- One theorem after another: the kernel's evaluations side by side run out of threads. -/
set_option Elab.async false

/-! Helpers -/

/-- The next state, if there is one. -/
def nextOf : Result → Option State
  | .next t => some t
  | .fault _ => none
  | .refused _ => none

/-- Operands of E2 and E5 in the parameter registers, the channel open. -/
def ready : State :=
  { State.reset with pSlave := 1#8, pReg := 0x0012#16, pQty := 2#16, wdata := [(0, 100#16)], chOpen := true }

/-- Operands of E8 in the parameter registers, the channel open. -/
def readySingle : State := { State.reset with pSlave := 1#8, pReg := 0x023C#16, pValue := 1#16, chOpen := true }

/-- An exchange accepted. -/
def sent (fc : Byte) (s : State) : State := acceptExchange fc s

/-- The same exchange with its request written and its settle delay running. -/
def settling (fc : Byte) (s : State) : State := { sent fc s with sentPh := .settle, settleT := s.cfgSettle }

/-- The same exchange with its read in progress. -/
def awaiting (fc : Byte) (s : State) : State :=
  { sent fc s with sentPh := .settle, state := .awaiting, timeoutT := s.cfgTimeout }

/-- Operands of E3 in the parameter registers, the channel open. -/
def readyOne : State := { ready with pQty := 1#16 }

/-! Well-formedness: an ill-formed term for each check -/

theorem test_wf_refuses_assigned_code : wellFormed (.reservedCmd 0x21#8) = false := by decide
theorem test_wf_refuses_read_from_slave_0 : wellFormed (.rtuReqReadHolding 0#8 0#16 1#16) = false := by decide
theorem test_wf_refuses_read_of_126 : wellFormed (.rtuReqReadHolding 1#8 0#16 126#16) = false := by decide
theorem test_wf_refuses_write_to_slave_248 : wellFormed (.rtuReqWriteSingle 248#8 0#16 0#16) = false := by decide
theorem test_wf_refuses_write_of_no_values : wellFormed (.rtuReqWriteMultiple 1#8 0#16 []) = false := by decide
theorem test_wf_refuses_write_of_124 : wellFormed (.rtuReqWriteMultiple 1#8 0#16 (List.replicate 124 0#16)) = false := by
  decide +kernel
theorem test_wf_refuses_write_multiple_to_slave_0 : wellFormed (.rtuReqWriteMultiple 0#8 0#16 [1#16]) = false := by decide
theorem test_wf_refuses_read_reply_of_no_values : wellFormed (.rtuRspReadHolding 1#8 0#8 []) = false := by decide
theorem test_wf_refuses_exception_with_bit_7_clear : wellFormed (.rtuRspException 1#8 0x03#8 2#8 []) = false := by decide
theorem test_wf_refuses_exception_past_rxbuf : wellFormed (.rtuRspException 1#8 0x83#8 2#8 (List.replicate 251 0#8)) = false := by
  decide +kernel

/-! Decoding: words and frames written out from R71, R75 to R81 and the vectors -/

theorem test_decode_READ_REGISTERS : decode .ctrl [0x03#8, 0x00#8, 0x00#8, 0x00#8] = .ok .readRegisters := by decide
/-- READ_REGISTER has no code of its own: its CTRL word is 0x03 (R88, R175). -/
theorem test_decode_READ_REGISTER : encode .readRegister = [0x03#8, 0x00#8, 0x00#8, 0x00#8] := by decide
theorem test_decode_WRITE_REGISTER : decode .ctrl [0x06#8, 0x12#8, 0x34#8, 0x56#8] = .ok .writeRegister := by decide
theorem test_decode_WRITE_REGISTERS : decode .ctrl [0x10#8, 0x00#8, 0x00#8, 0x80#8] = .ok .writeRegisters := by decide
theorem test_decode_CRC_INIT : decode .ctrl [0x20#8, 0x00#8, 0x00#8, 0x00#8] = .ok .crcInit := by decide
theorem test_decode_CRC_BYTE : decode .ctrl [0x21#8, 0x00#8, 0x00#8, 0x00#8] = .ok .crcByte := by decide
theorem test_decode_CLEAR : decode .ctrl [0x2F#8, 0x00#8, 0x00#8, 0x00#8] = .ok .clear := by decide
theorem test_decode_RESERVED_CMD : decode .ctrl [0x00#8, 0x03#8, 0x00#8, 0x00#8] = .ok (.reservedCmd 0x00#8) := by decide
/-- E11. -/
theorem test_decode_RTU_REQ_READ_HOLDING :
    decode .request [0xF7#8, 0x03#8, 0xFF#8, 0xFF#8, 0x00#8, 0x01#8, 0x90#8, 0xB8#8] =
      .ok (.rtuReqReadHolding 247#8 0xFFFF#16 1#16) := by decide +kernel
/-- E9. -/
theorem test_decode_RTU_REQ_WRITE_SINGLE :
    decode .request [0xF7#8, 0x06#8, 0xFF#8, 0xFF#8, 0xFF#8, 0xFF#8, 0x9C#8, 0xC8#8] =
      .ok (.rtuReqWriteSingle 247#8 0xFFFF#16 0xFFFF#16) := by decide +kernel
/-- E6. -/
theorem test_decode_RTU_REQ_WRITE_MULTIPLE :
    decode .request [0x11#8, 0x10#8, 0x00#8, 0x01#8, 0x00#8, 0x01#8, 0x02#8, 0x00#8, 0x0A#8, 0xEA#8, 0x46#8] =
      .ok (.rtuReqWriteMultiple 0x11#8 0x0001#16 [10#16]) := by decide +kernel
/-- D3.6, whose byte count is 5. -/
theorem test_decode_RTU_RSP_READ_HOLDING :
    decode .response [0x01#8, 0x03#8, 0x05#8, 0x00#8, 0x64#8, 0x08#8, 0x6E#8] = .ok (.rtuRspReadHolding 1#8 5#8 [100#16]) := by
  decide +kernel
/-- D1.6. -/
theorem test_decode_RTU_RSP_WRITE_SINGLE :
    decode .response [0x02#8, 0x06#8, 0x02#8, 0x3C#8, 0x00#8, 0x01#8, 0x89#8, 0x8D#8] =
      .ok (.rtuRspWriteSingle 2#8 0x023C#16 1#16) := by decide +kernel
/-- D4.3. -/
theorem test_decode_RTU_RSP_WRITE_MULTIPLE :
    decode .response [0x01#8, 0x10#8, 0x00#8, 0x13#8, 0x00#8, 0x02#8, 0xB0#8, 0x0D#8] =
      .ok (.rtuRspWriteMultiple 1#8 0x0013#16 2#16) := by decide +kernel
/-- D1.10, an exception reply padded to 8 bytes. -/
theorem test_decode_RTU_RSP_EXCEPTION :
    decode .response [0x01#8, 0x86#8, 0x02#8, 0x00#8, 0x00#8, 0x00#8, 0x89#8, 0xAC#8] =
      .ok (.rtuRspException 1#8 0x86#8 2#8 [0#8, 0#8, 0#8]) := by decide +kernel

/-- D1.2: a frame whose CRC fails is rejected by name. -/
theorem test_decode_rejects_bad_crc :
    decode .response [0x01#8, 0x06#8, 0x02#8, 0x3C#8, 0x00#8, 0x01#8, 0x89#8, 0x41#8] = .error .badCrc := by decide +kernel
/-- R2: function code 0x04 is none of the engine's. -/
theorem test_decode_rejects_function_code :
    decode .response (withCrc [0x01#8, 0x04#8, 0x02#8, 0x00#8, 0x64#8]) = .error .badFunction := by decide +kernel
/-- R86: slave 0 is never sent. -/
theorem test_decode_rejects_slave_0 :
    decode .request (withCrc [0x00#8, 0x03#8, 0x00#8, 0x00#8, 0x00#8, 0x01#8]) = .error .badSlave := by decide +kernel
theorem test_decode_rejects_short_word : decode .ctrl [0x03#8] = .error .tooShort := by decide

/-! The CRC function -/

/-- V1. -/
theorem test_crc_V1 : crc16 [0x01#8, 0x03#8, 0x00#8, 0x00#8, 0x00#8, 0x01#8] = 0x0A84#16 := by decide +kernel
/-- CRC5, the catalogue's check value. -/
theorem test_crc_check_value :
    crc16 [0x31#8, 0x32#8, 0x33#8, 0x34#8, 0x35#8, 0x36#8, 0x37#8, 0x38#8, 0x39#8] = 0x4B37#16 := by decide +kernel

/-! Host commands -/

/-- CRC_INIT (X17): accepted while BUSY, STAT unchanged. -/
theorem test_CRC_INIT :
    (nextOf (exec .crcInit (awaiting 0x03#8 { ready with crcAcc := 0x1234#16 }))).map (fun t => (t.crcAcc, stat t)) =
      some (0xFFFF#16, 0x00040002#32) := by decide +kernel
/-- CRC_BYTE (V1 after byte 1). -/
theorem test_CRC_BYTE :
    (nextOf (exec .crcByte { State.reset with crcIn := 0x01#8 })).map (·.crcAcc) = some 0x807E#16 := by decide +kernel
/-- CRC_BYTE (P4, the last feed of 0x0A with no new CRC_IN write). -/
theorem test_CRC_BYTE_again :
    (nextOf (exec .crcByte { State.reset with crcIn := 0x0A#8, crcAcc := 0x0000#16 })).map (·.crcAcc) = some 0x0780#16 := by
  decide +kernel
/-- READ_REGISTERS (E2, R162): the request in TXBUF, SENT and BUSY. -/
theorem test_READ_REGISTERS :
    (nextOf (exec .readRegisters ready)).map (fun t => (stat t, t.expLen, txFrame t)) =
      some (0x00040001#32, 9#16, [0x01#8, 0x03#8, 0x00#8, 0x12#8, 0x00#8, 0x02#8, 0x64#8, 0x0E#8]) := by decide +kernel
/-- READ_REGISTERS with Q = 126 (E13). -/
theorem test_READ_REGISTERS_invalid :
    (nextOf (exec .readRegisters { ready with pQty := 126#16 })).map (fun t => (stat t, t.txLen, t.expLen)) =
      some (0x00080074#32, 0#16, 0#16) := by decide +kernel
/-- READ_REGISTER (E3): Q = 1 whatever P_QTY held. -/
theorem test_READ_REGISTER :
    (nextOf (exec .readRegister ready)).map (fun t => (t.pQty, t.expLen, txFrame t)) =
      some (1#16, 7#16, [0x01#8, 0x03#8, 0x00#8, 0x12#8, 0x00#8, 0x01#8, 0x24#8, 0x0F#8]) := by decide +kernel
/-- WRITE_REGISTER (P1 right after the first CTRL write). -/
theorem test_WRITE_REGISTER :
    (nextOf (exec .writeRegister readySingle)).map (fun t => (stat t, t.txLen, t.expLen, txFrame t)) =
      some (0x00040001#32, 8#16, 8#16, [0x01#8, 0x06#8, 0x02#8, 0x3C#8, 0x00#8, 0x01#8, 0x89#8, 0xBE#8]) := by decide +kernel
/-- WRITE_REGISTER right after reset (X9): P_SLAVE is 0. -/
theorem test_WRITE_REGISTER_after_reset :
    (nextOf (exec .writeRegister State.reset)).map stat = some 0x00080074#32 := by decide +kernel
/-- WRITE_REGISTERS (E5). -/
theorem test_WRITE_REGISTERS :
    (nextOf (exec .writeRegisters ready)).map (fun t => (t.txLen, t.expLen, txFrame t)) =
      some (13#16, 8#16, [0x01#8, 0x10#8, 0x00#8, 0x12#8, 0x00#8, 0x02#8, 0x04#8, 0x00#8, 0x64#8, 0x00#8, 0x00#8, 0x32#8, 0xA5#8]) := by
  decide +kernel
/-- CLEAR while BUSY (X16): OVERRUN only. -/
theorem test_CLEAR_busy : (nextOf (exec .clear (sent 0x03#8 ready))).map stat = some 0x00060001#32 := by decide +kernel
/-- CLEAR after X11 (X15). -/
theorem test_CLEAR :
    (nextOf (exec .clear { ready with state := .failed, status := .exceptionResponse, excCode := 2#8, rxCount := 7#16 })).map stat =
      some 0x00000000#32 := by decide +kernel
/-- RESERVED_CMD (X10). -/
theorem test_RESERVED_CMD : (nextOf (exec (.reservedCmd 0x55#8) State.reset)).map stat = some 0x00080074#32 := by decide +kernel

/-! Requests -/

/-- RTU_REQ_READ_HOLDING (E4): EXP_LEN 255. -/
theorem test_RTU_REQ_READ_HOLDING :
    (nextOf (exec (.rtuReqReadHolding 1#8 0#16 125#16) State.reset)).map (fun t => (txFrame t, t.expLen)) =
      some ([0x01#8, 0x03#8, 0x00#8, 0x00#8, 0x00#8, 0x7D#8, 0x85#8, 0xEB#8], 255#16) := by decide +kernel
/-- RTU_REQ_WRITE_SINGLE (E10). -/
theorem test_RTU_REQ_WRITE_SINGLE :
    (nextOf (exec (.rtuReqWriteSingle 1#8 0#16 0#16) State.reset)).map (fun t => (txFrame t, t.expLen)) =
      some ([0x01#8, 0x06#8, 0x00#8, 0x00#8, 0x00#8, 0x00#8, 0x89#8, 0xCA#8], 8#16) := by decide +kernel
/-- RTU_REQ_WRITE_MULTIPLE (E6). -/
theorem test_RTU_REQ_WRITE_MULTIPLE :
    (nextOf (exec (.rtuReqWriteMultiple 0x11#8 1#16 [10#16]) State.reset)).map (fun t => (txFrame t, t.expLen)) =
      some ([0x11#8, 0x10#8, 0x00#8, 0x01#8, 0x00#8, 0x01#8, 0x02#8, 0x00#8, 0x0A#8, 0xEA#8, 0x46#8], 8#16) := by decide +kernel
/-! Responses -/

/-- RTU_RSP_READ_HOLDING (X2 with D2.1). -/
theorem test_RTU_RSP_READ_HOLDING :
    (nextOf (exec (.rtuRspReadHolding 1#8 4#8 [100#16, 0#16]) (awaiting 0x03#8 ready))).map
      (fun t => (stat t, t.rxCount, readCell t.rdata 0)) = some (0x00090013#32, 9#16, 100#16) := by decide +kernel
/-- RTU_RSP_READ_HOLDING from slave 2 (D3.4). -/
theorem test_RTU_RSP_READ_HOLDING_other_slave :
    (nextOf (exec (.rtuRspReadHolding 2#8 2#8 [100#16]) (awaiting 0x03#8 readyOne))).map (fun t => (stat t, readCell t.rdata 0)) =
      some (0x00080054#32, 0#16) := by decide +kernel
/-- RTU_RSP_WRITE_SINGLE (X1 with D1.1). -/
theorem test_RTU_RSP_WRITE_SINGLE :
    (nextOf (exec (.rtuRspWriteSingle 1#8 0x023C#16 1#16) (awaiting 0x06#8 readySingle))).map (fun t => (stat t, t.rxCount)) =
      some (0x00080013#32, 8#16) := by decide +kernel
/-- RTU_RSP_WRITE_SINGLE of another register (D1.4, V7). -/
theorem test_RTU_RSP_WRITE_SINGLE_other_register :
    (nextOf (exec (.rtuRspWriteSingle 1#8 0x023D#16 1#16) (awaiting 0x06#8 readySingle))).map stat = some 0x00080054#32 := by
  decide +kernel
/-- RTU_RSP_WRITE_MULTIPLE (X8 with D4.1): RDATA_VALID stays 0. -/
theorem test_RTU_RSP_WRITE_MULTIPLE :
    (nextOf (exec (.rtuRspWriteMultiple 1#8 0x0012#16 2#16) (awaiting 0x10#8 ready))).map (fun t => (stat t, t.rxCount)) =
      some (0x00080013#32, 8#16) := by decide +kernel
/-- RTU_RSP_WRITE_MULTIPLE of another quantity (D4.2). -/
theorem test_RTU_RSP_WRITE_MULTIPLE_other_quantity :
    (nextOf (exec (.rtuRspWriteMultiple 1#8 0x0012#16 1#16) (awaiting 0x10#8 ready))).map stat = some 0x00080054#32 := by
  decide +kernel
/-- RTU_RSP_EXCEPTION padded to the expected length (X11 with D3.3). -/
theorem test_RTU_RSP_EXCEPTION :
    (nextOf (exec (.rtuRspException 1#8 0x83#8 2#8 [0#8, 0#8]) (awaiting 0x03#8 readyOne))).map (fun t => (stat t, t.rxCount)) =
      some (0x00080244#32, 7#16) := by decide +kernel
/-- RTU_RSP_EXCEPTION of 5 bytes (X12 with D3.2). -/
theorem test_RTU_RSP_EXCEPTION_short :
    (nextOf (exec (.rtuRspException 1#8 0x83#8 2#8 []) (awaiting 0x03#8 readyOne))).map (fun t => (stat t, t.rxCount)) =
      some (0x00080024#32, 5#16) := by decide +kernel

/-! The validator and the engine's steps -/

/-- D3.9: an exception frame's address is not compared. -/
theorem test_validate_exception_from_slave_9 :
    validate (readRequestFrame 1#8 0x0012#16 1#16) 7 [0x09#8, 0x83#8, 0x04#8, 0x00#8, 0x00#8, 0x90#8, 0x44#8] =
      some (.fail .exceptionResponse (.code 0x04#8)) := by decide +kernel
/-- R132's example: 7 bytes of 8, and the count of them. -/
theorem test_validate_short :
    validate (writeSingleFrame 1#8 0x023C#16 1#16) 8 [0x01#8, 0x06#8, 0x02#8, 0x3C#8, 0x00#8, 0x01#8, 0x89#8] =
      some (.fail .incompleteResponse (.count 7)) := by decide +kernel
/-- D1.12: the CRC is checked before the function code. -/
theorem test_validate_crc_first :
    validate (writeSingleFrame 1#8 0x023C#16 1#16) 8 [0x01#8, 0x07#8, 0x02#8, 0x3C#8, 0x00#8, 0x01#8, 0x89#8, 0xBE#8] =
      some (.fail .checksumMismatch .none) := by decide +kernel
/-- X3: a closed channel, no write performed. -/
theorem test_write_step_closed :
    (nextOf (step { sent 0x10#8 ready with chOpen := false, events := [.engine (.done 13)] })).map (fun t => (stat t, t.written)) =
      some (0x00080064#32, []) := by decide +kernel
/-- X4: a short write. -/
theorem test_write_step_short :
    (nextOf (step { sent 0x10#8 ready with events := [.engine (.done 12)] })).map stat = some 0x00080064#32 := by decide +kernel
/-- X13: one byte more than EXP_LEN stays in the channel. -/
theorem test_read_leaves_extra_byte :
    (nextOf (step { awaiting 0x03#8 ready with events := [.engine (.done 0)], inputQueue :=
      [0x01#8, 0x03#8, 0x04#8, 0x00#8, 0x64#8, 0x00#8, 0x00#8, 0xBB#8, 0xEC#8, 0x55#8] })).map (fun t => (stat t, t.rxCount, t.inputQueue)) =
      some (0x00090013#32, 9#16, [0x55#8]) := by decide +kernel
/-- R133's example, delivered behind no other byte: a corrupt CRC byte ends the read in CHECKSUM_MISMATCH. -/
theorem test_corrupt_reply :
    (nextOf (step { awaiting 0x06#8 readySingle with events :=
      [.reply [0x01#8, 0x06#8, 0x02#8, 0x3C#8, 0x00#8, 0x01#8, 0x89#8, 0x41#8]] })).map (fun t => (stat t, t.rxCount)) =
      some (0x00080034#32, 8#16) := by decide +kernel
/-- X18: reset during AWAITING leaves the channel as it is. -/
theorem test_reset_in_awaiting :
    (nextOf (step { awaiting 0x03#8 ready with events := [.reset], inputQueue := [0x01#8] })).map
      (fun t => (stat t, t.txLen, t.inputQueue, t.chOpen)) = some (0x00000000#32, 0#16, [0x01#8], true) := by decide +kernel
/-- R22, R40: WDATA[122] is the last entry; the index after it is unmapped. -/
theorem test_host_write_wdata_end :
    (nextOf (step { State.reset with events := [.host (.write 0x17A#10 0x12345#32)] })).map (·.wdata) = some [(122, 0x2345#16)] ∧
      (nextOf (step { State.reset with events := [.host (.write 0x17B#10 0x12345#32)] })).map (·.wdata) = some [] := by
  decide +kernel

/-! Witnesses: states and operands that meet the hypotheses of the statements, each clause's at a boundary of its range -/

theorem inv_awaiting_read : Inv (awaiting 0x03#8 ready) := by
  constructor <;> first | decide +kernel | (unfold HoldsRequest; decide +kernel)
theorem inv_awaiting_single : Inv (awaiting 0x06#8 readySingle) := by
  constructor <;> first | decide +kernel | (unfold HoldsRequest; decide +kernel)
theorem inv_awaiting_multiple : Inv (awaiting 0x10#8 ready) := by
  constructor <;> first | decide +kernel | (unfold HoldsRequest; decide +kernel)
theorem inv_sent : Inv (sent 0x10#8 ready) := by
  constructor <;> first | decide +kernel | (unfold HoldsRequest; decide +kernel)
theorem inv_settled : Inv { settling 0x03#8 ready with settleT := 0#32 } := by
  constructor <;> first | decide +kernel | (unfold HoldsRequest; decide +kernel)

/-- The invariant does not speak of the channel's input queue, of time or of the events to come. -/
theorem inv_other {s : State} (h : Inv s) (q : List Byte) (tt : Word) (es : List Event) :
    Inv { s with inputQueue := q, timeoutT := tt, events := es } := by
  obtain ⟨a1, a2, a3, a4, a5, a6, a7, a8, a9, a10, a11, a12, a13, a14, a15, a16, a17, a18, a19, a20⟩ := h
  exact ⟨a1, a2, a3, a4, a5, a6, a7, a8, a9, a10, a11, a12, a13, a14, a15, a16, a17, a18, a19, a20⟩

theorem witness_DecodeEncodeRoundTrip :
    wellFormed (.rtuReqReadHolding 247#8 0xFFFF#16 125#16) = true ∧ Instr.rtuReqReadHolding 247#8 0xFFFF#16 125#16 ≠ .readRegister := by
  decide
theorem witness_DecodedFramesAreTheirEncoding :
    Format.response ≠ .ctrl ∧
      decode .response [0x01#8, 0x83#8, 0x02#8, 0xC0#8, 0xF1#8] = .ok (.rtuRspException 1#8 0x83#8 2#8 []) := by decide +kernel
theorem witness_CtrlDecodesByItsLowByte :
    (0x00000003#32).extractLsb' 0 8 = (0xFFFFFF03#32).extractLsb' 0 8 ∧ decodeCtrl 0xFFFFFFFF#32 = .reservedCmd 0xFF#8 := by decide
theorem witness_StepRunsTheCommandWrittenToCtrl :
    { ready with events := [.host (.write 0x000#10 0x03#32)] }.events = .host (.write 0x000#10 0x03#32) :: [] := rfl
theorem witness_StepRunsTheResponseDelivered :
    (formatOf (.rtuRspException 1#8 0x83#8 2#8 []) = .response ∧ wellFormed (.rtuRspException 1#8 0x83#8 2#8 []) = true) ∧
      { awaiting 0x03#8 ready with events := [.reply (encode (.rtuRspException 1#8 0x83#8 2#8 []))] }.events =
        .reply (encode (.rtuRspException 1#8 0x83#8 2#8 [])) :: [] ∧
      { awaiting 0x03#8 ready with events := [.reply [0x00#8]] }.events = .reply [0x00#8] :: [] ∧
      ready.state ≠ .awaiting ∧
      ((awaiting 0x03#8 ready).state = .awaiting ∧ (awaiting 0x03#8 ready).chOpen = true ∧
        (awaiting 0x03#8 ready).expLen.toNat ≤ ([0x00#8] ++ List.replicate 8 0xFF#8).length ∧
        ([0x00#8] ++ List.replicate 7 0xFF#8).length < (awaiting 0x03#8 ready).expLen.toNat) ∧
      { awaiting 0x03#8 ready with chOpen := false }.chOpen = false := by
  exact ⟨by decide, rfl, rfl, by decide, by decide +kernel, rfl⟩
theorem witness_StepRunsTheTableWord :
    decodeTableWord 8 0x03 = some .readRegisters ∧ decodeTableWord 32 0xFFFFFF2F = some .clear ∧
      decodeTableWord 40 0xF1C0028301 = some (.rtuRspException 1#8 0x83#8 2#8 []) := by decide +kernel
theorem witness_QuiescentEngineKeepsItsState :
    busy { ready with events := [.engine .err] } = false ∧ { ready with events := [.engine .err] }.events = .engine .err :: [] ∧
      ready.events = [] := ⟨rfl, rfl, rfl⟩
theorem witness_CrcByteStreamComputesCrc16 :
    State.reset.crcAcc = 0xFFFF#16 ∧
      { State.reset with events := [.host (.write 0x005#10 0x01#32), .host (.write 0x000#10 0x21#32)] }.events =
        ([0x01#8].flatMap fun b : Byte => [.host (.write 0x005#10 (b.setWidth 32)), .host (.write 0x000#10 0x21#32)]) ++ [] :=
  ⟨rfl, rfl⟩
theorem witness_CrcResidueIsZero : 2 ≤ [0xFF#8, 0xFF#8].length ∧ crcOk [0xFF#8, 0xFF#8] = true := by decide +kernel
theorem witness_OnlyCrcCommandsWriteTheAccumulator :
    ∃ s t, step s = .next t ∧ ¬ nextIsReset s ∧ ¬ nextIsCommand 0x20#8 s ∧ ¬ nextIsCommand 0x21#8 s :=
  ⟨{ ready with events := [.elapse 1] }, _, rfl, by simp [nextIsReset], by simp [nextIsCommand], by simp [nextIsCommand]⟩
theorem witness_EncoderRejectsExactlyInvalidParameters :
    (0x10#8 : Byte) = 0x03#8 ∨ (0x10#8 : Byte) = 0x06#8 ∨ (0x10#8 : Byte) = 0x10#8 := by decide
theorem witness_ExpectedLengthByFunctionCode :
    encodeRequest 0x03#8 1#8 0#16 125#16 0#16 [] =
        some ([0x01#8, 0x03#8, 0x00#8, 0x00#8, 0x00#8, 0x7D#8, 0x85#8, 0xEB#8], 255#16) ∧
      (∃ f, encodeRequest 0x06#8 1#8 0#16 0#16 0#16 [] = some (f, 8#16)) ∧
      (∃ f, encodeRequest 0x10#8 1#8 0#16 1#16 0#16 [] = some (f, 8#16)) :=
  ⟨by decide +kernel, ⟨_, rfl⟩, ⟨_, rfl⟩⟩
theorem witness_EncodedFramesCarryTheirCrc :
    encodeRequest 0x06#8 247#8 0xFFFF#16 0#16 0xFFFF#16 [] =
      some ([0xF7#8, 0x06#8, 0xFF#8, 0xFF#8, 0xFF#8, 0xFF#8, 0x9C#8, 0xC8#8], 8#16) := by decide +kernel
theorem witness_ReadRequestIsBuilt :
    ValidParameters 0x03#8 247#8 125#16 ∧ Memory.wf Config.txbufSize State.reset.txbuf = true :=
  ⟨by unfold ValidParameters; decide, rfl⟩
theorem witness_WriteSingleRequestIsBuilt :
    1 ≤ (247#8 : Byte).toNat ∧ (247#8 : Byte).toNat ≤ 247 ∧ Memory.wf Config.txbufSize (sent 0x03#8 ready).txbuf = true := by
  decide +kernel
theorem witness_WriteMultipleRequestIsBuilt :
    1 ≤ (1#8 : Byte).toNat ∧ (1#8 : Byte).toNat ≤ 247 ∧ 1 ≤ (List.replicate 123 0xFFFF#16).length ∧
      (List.replicate 123 0xFFFF#16).length ≤ 123 ∧ Memory.wf Config.txbufSize State.reset.txbuf = true := by decide +kernel
theorem witness_InvalidRequestsTouchNothingElse :
    ¬ ValidParameters 0x03#8 1#8 126#16 ∧ ¬ (1 ≤ (248#8 : Byte).toNat ∧ (248#8 : Byte).toNat ≤ 247) ∧
      ¬ ((1 ≤ (1#8 : Byte).toNat ∧ (1#8 : Byte).toNat ≤ 247) ∧ 1 ≤ ([] : List HalfWord).length ∧ ([] : List HalfWord).length ≤ 123) := by
  unfold ValidParameters; decide
theorem witness_ReadRegistersIsAccepted :
    busy ready = false ∧ ValidParameters 0x03#8 ready.pSlave ready.pQty ∧ Memory.wf Config.txbufSize ready.txbuf = true := by
  unfold ValidParameters; decide
theorem witness_ReadRegisterIsAccepted :
    (busy ready = false ∧ 1 ≤ ready.pSlave.toNat ∧ ready.pSlave.toNat ≤ 247 ∧ Memory.wf Config.txbufSize ready.txbuf = true) ∧
      { ready with events := [.host (.write 0x003#10 1#32), .host (.write 0x000#10 0x03#32)] }.events =
        .host (.write 0x003#10 1#32) :: .host (.write 0x000#10 0x03#32) :: [] := ⟨by decide, rfl⟩
theorem witness_WriteRegisterIsAccepted :
    busy readySingle = false ∧ 1 ≤ readySingle.pSlave.toNat ∧ readySingle.pSlave.toNat ≤ 247 ∧
      Memory.wf Config.txbufSize readySingle.txbuf = true := by decide
theorem witness_WriteRegistersIsAccepted :
    busy ready = false ∧ ValidParameters 0x10#8 ready.pSlave ready.pQty ∧ Memory.wf Config.txbufSize ready.txbuf = true ∧
      Memory.wf Config.maxWriteQty ready.lWdata = true := by unfold ValidParameters; decide
theorem witness_InvalidParametersEndTheCommand :
    ((Instr.writeRegisters, 0x10#8, 124#16) ∈ [(Instr.readRegisters, 0x03#8, 124#16), (.readRegister, 0x03#8, 1#16),
        (.writeRegister, 0x06#8, 124#16), (.writeRegisters, 0x10#8, 124#16)] ∧
      busy { ready with pQty := 124#16 } = false ∧ ¬ ValidParameters 0x10#8 ready.pSlave 124#16 ∧
      Memory.wf Config.maxWriteQty { ready with pQty := 124#16 }.lWdata = true) ∧
    (busy { ready with pSlave := 0#8, pQty := 123#16 } = false ∧ ¬ ValidParameters 0x10#8 0#8 123#16) ∧
    ¬ ValidParameters 0x03#8 248#8 1#16 := by
  unfold ValidParameters; decide
theorem witness_BusyEngineDropsCommands : busy (sent 0x03#8 ready) = true ∧ busy (awaiting 0x03#8 ready) = true := by decide +kernel
theorem witness_ClearReturnsToIdle : busy ready = false ∧ busy (awaiting 0x03#8 ready) = true := by decide +kernel
theorem witness_ReservedCodeEndsInvalid : (0x22#8 : Byte) ∉ [0x03#8, 0x06#8, 0x10#8, 0x20#8, 0x21#8, 0x2F#8] ∧
    busy ready = false ∧ busy (sent 0x03#8 ready) = true := by decide +kernel
theorem witness_HostWritesLeaveTheExchange :
    (0x17A#10 : RegIndex) ≠ 0x000#10 ∧
      { sent 0x03#8 ready with events := [.host (.write 0x17A#10 5#32)] }.events = .host (.write 0x17A#10 5#32) :: [] := ⟨by decide, rfl⟩
theorem witness_WriteStepSendsTheWholeFrame :
    ((sent 0x10#8 ready).state = .sent ∧ (sent 0x10#8 ready).sentPh = .write) ∧
      { sent 0x10#8 ready with chOpen := false }.chOpen = false ∧
      ((sent 0x10#8 ready).chOpen = true ∧ (sent 0x10#8 ready).txLen.toNat ≤ Config.txbufSize ∧
        ChanAnswer.done 13 = .done (sent 0x10#8 ready).txLen.toNat) ∧
      ChanAnswer.done 12 ≠ .done (sent 0x10#8 ready).txLen.toNat := by decide +kernel
theorem witness_SettleDelayPrecedesTheRead :
    ((settling 0x03#8 ready).state = .sent ∧ (settling 0x03#8 ready).sentPh = .settle ∧ (settling 0x03#8 ready).settleT ≠ 0#32) ∧
      { settling 0x03#8 ready with settleT := 0#32 }.settleT = 0#32 ∧
      { settling 0x03#8 ready with events := [.elapse 99] }.events = .elapse 99 :: [] := ⟨by decide +kernel, rfl, rfl⟩
theorem witness_FailedReadIsTransportError :
    (awaiting 0x03#8 ready).state = .awaiting ∧ (ChanAnswer.err = .err ∨ (awaiting 0x03#8 ready).chOpen = false) ∧
      (ChanAnswer.done 0 = .err ∨ { awaiting 0x03#8 ready with chOpen := false }.chOpen = false) := by decide +kernel
theorem witness_ReadEndsAtLengthOrTimeout :
    (Inv { awaiting 0x03#8 ready with inputQueue := List.replicate 9 0#8, timeoutT := 1#32, events := [.engine (.done 0)] } ∧
      Inv { awaiting 0x03#8 ready with inputQueue := List.replicate 8 0#8, timeoutT := 0#32, events := [.engine (.done 0)] }) ∧
      ((awaiting 0x03#8 ready).state = .awaiting ∧ (awaiting 0x03#8 ready).chOpen = true ∧
        (awaiting 0x03#8 ready).expLen.toNat ≤ (List.replicate 9 0#8).length ∧
        (List.replicate 8 0#8).length < (awaiting 0x03#8 ready).expLen.toNat ∧ (1#32 : Word) ≠ 0#32) :=
  ⟨⟨inv_other inv_awaiting_read _ _ _, inv_other inv_awaiting_read _ _ _⟩, by decide +kernel⟩
theorem witness_CompletionRecordsTheVerdict :
    Inv (awaiting 0x03#8 ready) ∧ (awaiting 0x03#8 ready).state = .awaiting ∧
      (readReplyFrame 1#8 4#8 [100#16, 0#16]).length ≤ (awaiting 0x03#8 ready).expLen.toNat ∧
      validate (txFrame (awaiting 0x03#8 ready)) 9 (readReplyFrame 1#8 4#8 [100#16, 0#16]) = some (.ok [100#16, 0#16]) ∧
      validate (txFrame (awaiting 0x03#8 ready)) 9 [] = some (.fail .incompleteResponse (.count 0)) :=
  ⟨inv_awaiting_read, by decide +kernel⟩
theorem witness_ValidatorChecksInOrder :
    7 < (writeSingleFrame 1#8 0x023C#16 1#16).length ∧ (writeSingleFrame 1#8 0x023C#16 1#16).length < 9 ∧
      ([0x00#8, 0x00#8, 0x00#8].length = 3 ∧ crcOk [0x00#8, 0x00#8, 0x00#8] = false) ∧
      ((exceptionFrame 1#8 0x86#8 2#8 [0#8, 0#8, 0#8]).length = 8 ∧ crcOk (exceptionFrame 1#8 0x86#8 2#8 [0#8, 0#8, 0#8]) = true ∧
        (byteAt (exceptionFrame 1#8 0x86#8 2#8 [0#8, 0#8, 0#8]) 1).getLsbD 7 = true) ∧
      ((writeSingleFrame 1#8 0x023C#16 1#16).length = 8 ∧ crcOk (writeSingleFrame 1#8 0x023C#16 1#16) = true ∧
        (byteAt (writeSingleFrame 1#8 0x023C#16 1#16) 1).getLsbD 7 = false ∧
        byteAt (writeSingleFrame 1#8 0x023C#16 1#16) 1 = 0x06#8) ∧
      ((readReplyFrame 2#8 2#8 [100#16]).length = 7 ∧ crcOk (readReplyFrame 2#8 2#8 [100#16]) = true ∧
        (byteAt (readReplyFrame 2#8 2#8 [100#16]) 1).getLsbD 7 = false ∧
        byteAt (readRequestFrame 1#8 0x0012#16 1#16) 1 = 0x03#8 ∧
        byteAt (readReplyFrame 2#8 2#8 [100#16]) 0 ≠ byteAt (readRequestFrame 1#8 0x0012#16 1#16) 0) := by decide +kernel
theorem witness_ReadReplyDecodesToItsValues :
    (List.replicate 125 7#16).length = (125#16 : HalfWord).toNat ∧ 1 ≤ (125#16 : HalfWord).toNat ∧ (125#16 : HalfWord).toNat ≤ 125 := by
  decide +kernel
theorem witness_ExceptionFrameIsJudgedByLength :
    (0x83#8 : Byte).getLsbD 7 = true ∧ 5 + [0#8, 0#8].length = 7 ∧ 5 + ([] : List Byte).length < 7 := by decide
theorem witness_ReadReplyCompletesTheRead :
    Inv (awaiting 0x03#8 ready) ∧ (awaiting 0x03#8 ready).state = .awaiting ∧ (awaiting 0x03#8 ready).chOpen = true ∧
      (awaiting 0x03#8 ready).inputQueue = [] ∧ (awaiting 0x03#8 ready).lFc = 0x03#8 ∧
      [100#16, 0#16].length = (awaiting 0x03#8 ready).lQty.toNat ∧ (1#8 : Byte) = (awaiting 0x03#8 ready).lSlave ∧
      (2#8 : Byte) ≠ (awaiting 0x03#8 ready).lSlave := ⟨inv_awaiting_read, by decide +kernel⟩
theorem witness_WriteSingleReplyCompletesTheExchange :
    Inv (awaiting 0x06#8 readySingle) ∧ (awaiting 0x06#8 readySingle).state = .awaiting ∧
      (awaiting 0x06#8 readySingle).chOpen = true ∧ (awaiting 0x06#8 readySingle).inputQueue = [] ∧
      (awaiting 0x06#8 readySingle).lFc = 0x06#8 ∧
      ((1#8 : Byte) = (awaiting 0x06#8 readySingle).lSlave ∧ (0x023C#16 : HalfWord) = (awaiting 0x06#8 readySingle).lReg ∧
        (1#16 : HalfWord) = (awaiting 0x06#8 readySingle).lValue) ∧
      ¬ ((1#8 : Byte) = (awaiting 0x06#8 readySingle).lSlave ∧ (0x023D#16 : HalfWord) = (awaiting 0x06#8 readySingle).lReg ∧
        (1#16 : HalfWord) = (awaiting 0x06#8 readySingle).lValue) := ⟨inv_awaiting_single, by decide +kernel⟩
theorem witness_WriteMultipleReplyCompletesTheExchange :
    Inv (awaiting 0x10#8 ready) ∧ (awaiting 0x10#8 ready).state = .awaiting ∧ (awaiting 0x10#8 ready).chOpen = true ∧
      (awaiting 0x10#8 ready).inputQueue = [] ∧ (awaiting 0x10#8 ready).lFc = 0x10#8 ∧
      ((1#8 : Byte) = (awaiting 0x10#8 ready).lSlave ∧ (0x0012#16 : HalfWord) = (awaiting 0x10#8 ready).lReg ∧
        (2#16 : HalfWord) = (awaiting 0x10#8 ready).lQty) ∧
      ¬ ((1#8 : Byte) = (awaiting 0x10#8 ready).lSlave ∧ (0x0012#16 : HalfWord) = (awaiting 0x10#8 ready).lReg ∧
        (1#16 : HalfWord) = (awaiting 0x10#8 ready).lQty) := ⟨inv_awaiting_multiple, by decide +kernel⟩
theorem witness_ExceptionReplyCompletesTheExchange :
    Inv (awaiting 0x10#8 ready) ∧ (awaiting 0x10#8 ready).state = .awaiting ∧ (awaiting 0x10#8 ready).chOpen = true ∧
      (awaiting 0x10#8 ready).inputQueue = [] ∧ (0x90#8 : Byte).getLsbD 7 = true ∧
      5 + [0#8, 0#8, 0#8].length = (awaiting 0x10#8 ready).expLen.toNat ∧
      5 + [0#8, 0#8].length < (awaiting 0x10#8 ready).expLen.toNat := ⟨inv_awaiting_multiple, by decide +kernel⟩
theorem witness_RepliesOutsideAReadWait :
    (formatOf (.rtuRspWriteSingle 1#8 0#16 0#16) = .response ∧ (sent 0x06#8 readySingle).state ≠ .awaiting) ∧
      { ready with events := [.arrive [1#8, 2#8]] }.events = .arrive [1#8, 2#8] :: [] ∧
      { ready with events := [.drain 1] }.events = .drain 1 :: [] ∧
      { ready with events := [.channelOpen false] }.events = .channelOpen false :: [] ∧
      { ready with events := [.elapse 1] }.events = .elapse 1 :: [] := ⟨by decide +kernel, rfl, rfl, rfl, rfl⟩
theorem witness_WritableRegistersReadBack :
    ((0x17A#10 : RegIndex) ≠ 0x000#10 ∧ Memory.wf Config.maxWriteQty ready.wdata = true ∧ 0x100 ≤ (0x17A#10 : RegIndex).toNat ∧
      (0x17A#10 : RegIndex).toNat < 0x100 + 123 ∧ (0x001#10 : RegIndex) ∈ [0x001#10, 0x005#10] ∧
      (0x004#10 : RegIndex) ∈ [0x002#10, 0x003#10, 0x004#10] ∧ (0x007#10 : RegIndex) ∈ [0x006#10, 0x007#10] ∧
      (0x101#10 : RegIndex) ≠ 0x17A#10) ∧
      { ready with events := [.host (.write 0x17A#10 0xFFFFFFFF#32)] }.events = .host (.write 0x17A#10 0xFFFFFFFF#32) :: [] :=
  ⟨by decide, rfl⟩
theorem witness_ReadOnlyAndUnmappedIgnoreWrites :
    ((8 ≤ (0x0FF#10 : RegIndex).toNat ∧ (0x0FF#10 : RegIndex).toNat < 0x100) ∨ 0x17B ≤ (0x0FF#10 : RegIndex).toNat) ∧
      { ready with events := [.host (.write 0x0FF#10 1#32)] }.events = .host (.write 0x0FF#10 1#32) :: [] ∧
      ((0x27D#10 : RegIndex).toNat = 0 ∨ (0x0D ≤ (0x27D#10 : RegIndex).toNat ∧ (0x27D#10 : RegIndex).toNat < 0x100) ∨
        (0x17B ≤ (0x27D#10 : RegIndex).toNat ∧ (0x27D#10 : RegIndex).toNat < 0x200) ∨ 0x27D ≤ (0x27D#10 : RegIndex).toNat) ∧
      { ready with events := [.host (.read 0x27D#10)] }.events = .host (.read 0x27D#10) :: [] :=
  ⟨by decide, rfl, by decide, rfl⟩
theorem witness_HostReadsHaveNoOtherEffect :
    { ready with events := [.host (.read 0x27C#10)] }.events = .host (.read 0x27C#10) :: [] ∧ (124 : Nat) < 125 ∧
      (0x27C#10 : RegIndex).toNat = 0x200 + 124 ∧
      { ready with events := [.host (.read 0x17A#10)] }.events = .host (.read 0x17A#10) :: [] ∧ (122 : Nat) < 123 ∧
      (0x17A#10 : RegIndex).toNat = 0x100 + 122 := ⟨rfl, by decide, by decide, rfl, by decide, by decide⟩
theorem witness_ResetGivesTheValuesOfTheTable :
    Instr.readRegister ∈ [Instr.readRegisters, .readRegister, .writeRegister, .writeRegisters] ∧ State.reset.pSlave = 0#8 ∧
      busy State.reset = false := by decide
theorem witness_ResetAbandonsTheExchange :
    { awaiting 0x03#8 ready with events := [.reset] }.events = .reset :: [] := rfl
theorem witness_StepKeepsTheInvariant :
    ∃ s t, Inv s ∧ step s = .next t ∧ t.state = .failed :=
  ⟨{ awaiting 0x03#8 ready with inputQueue := [], timeoutT := 5#32, events := [.engine .err] }, _,
    inv_other inv_awaiting_read _ _ _, rfl, rfl⟩
theorem witness_InvariantStatesNeverStop : Inv (awaiting 0x03#8 ready) := inv_awaiting_read
theorem witness_OnlyValidRequestsReachTheChannel :
    (∃ s t, Inv s ∧ OnlyValidRequestsSent s ∧ step s = .next t) ∧
      ValidRequest [0xF7#8, 0x03#8, 0xFF#8, 0xFF#8, 0x00#8, 0x01#8, 0x90#8, 0xB8#8] :=
  ⟨⟨{ sent 0x10#8 ready with inputQueue := [], timeoutT := 0#32, events := [.elapse 1] }, _, inv_other inv_sent _ _ _,
      fun _ hf => absurd hf (List.not_mem_nil (a := _)), rfl⟩,
    .rtuReqReadHolding 247#8 0xFFFF#16 1#16, by decide +kernel, by decide⟩
theorem witness_OneWritePerExchange :
    (∃ s t, Inv s ∧ step s = .next t ∧ t.state = .failed) ∧
      ∃ s t, Inv s ∧ step s = .next t ∧ busy s = true ∧ t.state = .sent ∧ t.sentPh = .write :=
  ⟨⟨{ awaiting 0x03#8 ready with inputQueue := [], timeoutT := 5#32, events := [.engine .err] }, _,
      inv_other inv_awaiting_read _ _ _, rfl, rfl⟩,
    ⟨{ sent 0x10#8 ready with inputQueue := [], timeoutT := 0#32, events := [.channelOpen false] }, _,
      inv_other inv_sent _ _ _, rfl, rfl, rfl, rfl⟩⟩
theorem witness_StateMovesOnlyAlongTheTable :
    ∃ s t, step s = .next t ∧ ¬ nextIsReset s ∧ s.state = .awaiting ∧ t.state = .failed :=
  ⟨{ awaiting 0x03#8 ready with events := [.engine .err] }, _, rfl, by simp [nextIsReset], rfl, rfl⟩
theorem witness_EveryExchangeEnds :
    Inv { sent 0x10#8 ready with inputQueue := [], timeoutT := 0#32, events :=
      [.engine (.done 13), .elapse 100, .engine .err, .arrive [], .elapse 1000, .engine (.done 0)] } ∧
      (sent 0x10#8 ready).state = .sent ∧ (sent 0x10#8 ready).sentPh = .write ∧ (sent 0x10#8 ready).lSettle.toNat ≤ 100 ∧
      (sent 0x10#8 ready).lTimeout.toNat ≤ 1000 := ⟨inv_other inv_sent _ _ _, by decide +kernel⟩
theorem witness_OverrunIsSticky :
    ∃ s t, step s = .next t ∧ s.overrun = true ∧ ¬ nextIsReset s ∧ ¬ nextIsCommand 0x2F#8 s :=
  ⟨{ ready with overrun := true, events := [.elapse 1] }, _, rfl, rfl, by simp [nextIsReset], by simp [nextIsCommand]⟩
theorem witness_OnlyAValidatedReadWritesRdata :
    ∃ s t, Inv s ∧ step s = .next t ∧ ¬ nextIsReset s :=
  ⟨{ awaiting 0x03#8 ready with inputQueue := [], timeoutT := 5#32, events := [.engine .err] }, _,
    inv_other inv_awaiting_read _ _ _, rfl, by simp [nextIsReset]⟩
/-- Two exchanges in AWAITING with equal latches and channel that differ in RDATA and OVERRUN, on an ERR. -/
theorem witness_ResultDependsOnLatchesAndChannelOnly :
    let s1 := { awaiting 0x03#8 ready with inputQueue := [], timeoutT := 5#32, events := [.engine .err] }
    let s2 := { awaiting 0x03#8 { ready with rdata := [(0, 7#16)], overrun := true } with
                inputQueue := [], timeoutT := 5#32, events := [.engine .err, .reset] }
    Inv s1 ∧ Inv s2 ∧ busy s1 = true ∧ SameExchange s1 s2 ∧ s1.events = .engine .err :: [] ∧ s2.events = .engine .err :: [.reset] := by
  have h : Inv (awaiting 0x03#8 { ready with rdata := [(0, 7#16)], overrun := true }) := by
    constructor <;> first | decide +kernel | (unfold HoldsRequest; decide +kernel)
  exact ⟨inv_other inv_awaiting_read _ _ _, inv_other h _ _ _, rfl,
    ⟨rfl, fun _ => rfl, fun _ _ => rfl, fun _ => rfl, rfl, rfl, rfl, rfl, rfl, rfl, rfl, fun _ _ _ => rfl, rfl, rfl⟩, rfl, rfl⟩
/-- L_TIMEOUT is 1000: the read still runs after 999 units and has ended after 1000. -/
theorem witness_ReadTimeoutCountsFromTheRead :
    (Inv { awaiting 0x03#8 ready with inputQueue := [], timeoutT := 5#32, events := [.elapse 6] } ∧
      (awaiting 0x03#8 ready).state = .awaiting) ∧
    (let s := { settling 0x03#8 ready with settleT := 0#32 }
     Inv { s with inputQueue := [], timeoutT := 0#32, events := [.engine .err, .elapse 999, .engine (.done 0)] } ∧
      Inv { s with inputQueue := [], timeoutT := 0#32, events := [.engine .err, .elapse 1000, .engine (.done 0)] } ∧
      s.state = .sent ∧ s.sentPh = .settle ∧ s.settleT = 0#32 ∧ s.chOpen = true ∧ ([] : List Byte).length < s.expLen.toNat ∧
      999 < s.lTimeout.toNat ∧ s.lTimeout.toNat ≤ 1000) :=
  ⟨⟨inv_other inv_awaiting_read _ _ _, rfl⟩, inv_other inv_settled _ _ _, inv_other inv_settled _ _ _, by decide +kernel⟩

end Sys2Proof.Tests
end

