-- ==== Sys2Proof/Proofs/ValidRequests.lean ====
section
/-! PROOFS. The request decoder reads back what the encoder builds, a step writes at most the request of the latches, and so only
well-formed requests reach the channel. -/

namespace Sys2Proof

open Machine

/-! What a decoded request says of its slave -/

/-- A request body that decodes is addressed to a slave a request may carry (R86). -/
theorem decodeRequestBody_slaveOk {m : List Byte} {i : Instr} (h : decodeRequestBody m = .ok i) :
    0 < m.length ∧ slaveOk (byteAt m 0) = true := by
  unfold decodeRequestBody at h
  split at h
  · next slave fc r1 r0 q1 q0 rest =>
    split at h
    · cases h
    · next hs => exact ⟨by simp, by simpa [byteAt] using hs⟩
  · cases h

/-- The slave address stands in byte 0 of a valid request (R75 to R77, R86). -/
theorem ValidRequest.slaveOk {f : List Byte} (h : ValidRequest f) : Machine.slaveOk (byteAt f 0) = true := by
  obtain ⟨i, hi, -⟩ := h
  obtain ⟨-, -, hf, hb⟩ := decodeFrame_ok hi
  obtain ⟨hl, hs⟩ := decodeRequestBody_slaveOk hb
  rw [hf, byteAt_withCrc hl]
  exact hs

/-! The decoder on the three requests the encoder builds -/

/-- TXBUF holds the longest request, one of MAX_WRITE_QTY values (R6). -/
theorem txbufSize_eq : Config.txbufSize = 255 := rfl

/-- A request body of a length TXBUF holds, with its CRC, decodes as the body does. -/
theorem decode_request_withCrc {m : List Byte} (h1 : 3 ≤ m.length) (h2 : m.length + 2 ≤ Config.txbufSize) :
    decode .request (withCrc m) = decodeRequestBody m :=
  decodeFrame_withCrc h1 h2

/-- The 0x03 request reads back (R75). -/
theorem decode_readRequestFrame {slave : Byte} {qty : HalfWord} (start : HalfWord) (hs : slaveOk slave = true)
    (hq : readQtyOk qty.toNat = true) :
    decode .request (readRequestFrame slave start qty) = .ok (.rtuReqReadHolding slave start qty) := by
  rw [readRequestFrame, decode_request_withCrc (by simp) (by simp [txbufSize_eq])]
  simp [decodeRequestBody, hs, hq]

/-- The 0x06 request reads back (R76). -/
theorem decode_writeSingleFrame {slave : Byte} (reg value : HalfWord) (hs : slaveOk slave = true) :
    decode .request (writeSingleFrame slave reg value) = .ok (.rtuReqWriteSingle slave reg value) := by
  rw [writeSingleFrame, decode_request_withCrc (by simp) (by simp [txbufSize_eq])]
  simp [decodeRequestBody, hs]

/-- The 0x10 request reads back (R77): the quantity and the byte count both fit their fields. -/
theorem decode_writeMultipleFrame {slave : Byte} {values : List HalfWord} (start : HalfWord) (hs : slaveOk slave = true)
    (hq : writeQtyOk values.length = true) :
    decode .request (writeMultipleFrame slave start values) = .ok (.rtuReqWriteMultiple slave start values) := by
  obtain ⟨-, hmax⟩ := writeQtyOk_iff.mp hq
  have hqty : values.length % 65536 = values.length := Nat.mod_eq_of_lt (by omega)
  have hcount : 2 * values.length % 256 = 2 * values.length := Nat.mod_eq_of_lt (by omega)
  rw [writeMultipleFrame, decode_request_withCrc (by simp) (by simp [txbufSize_eq]; omega)]
  simp [decodeRequestBody, hs, hq, hqty, hcount]

/-- Every frame the encoder builds is a valid request (R110 to R113). -/
theorem validRequest_of_encodeRequest {fc slave : Byte} {reg qty value : HalfWord} {wd : Memory 16} {f : List Byte} {e : HalfWord}
    (h : encodeRequest fc slave reg qty value wd = some (f, e)) : ValidRequest f := by
  obtain ⟨hs, ⟨-, hq, rfl, -⟩ | ⟨-, rfl, -⟩ | ⟨-, hq, rfl, -⟩⟩ := encodeRequest_cases h
  · exact ⟨_, decode_readRequestFrame reg hs hq, by simp [wellFormed, hs, hq]⟩
  · exact ⟨_, decode_writeSingleFrame reg value hs, by simp [wellFormed, hs]⟩
  · have hlen : writeQtyOk ((List.range qty.toNat).map (readCell wd)).length = true := by simpa using hq
    exact ⟨_, decode_writeMultipleFrame reg hs hlen, by simp [wellFormed, hs, hq]⟩

/-- The request an exchange holds is a valid one. -/
theorem HoldsRequest.validRequest {s : State} (h : HoldsRequest s) : ValidRequest (txFrame s) :=
  validRequest_of_encodeRequest h

/-! What a step writes -/

/-- A move writes nothing, or it is the write step on an open channel and writes the frame in TXBUF (R54, R166). -/
theorem Machine.Move.written_cases {e : Option Event} {s t : State} (m : Move e s t) :
    t.written = s.written ∨
      (s.state = .sent ∧ s.sentPh = .write ∧ s.chOpen = true ∧ t.written = s.written ++ [txFrame s]) := by
  cases m
  case wrote hs hp ho => exact .inr ⟨hs, hp, ho, rfl⟩
  case writeFailed hs hp ho => exact .inr ⟨hs, hp, ho, rfl⟩
  all_goals exact .inl (by simp)

/-- The same of a step, which takes its event off first. -/
theorem step_written_cases {s t : State} (h : step s = .next t) :
    t.written = s.written ∨
      (s.state = .sent ∧ s.sentPh = .write ∧ s.chOpen = true ∧ t.written = s.written ++ [txFrame s]) :=
  (step_move h).written_cases

/-- One frame more, itself a valid request, keeps the frames written valid. -/
theorem OnlyValidRequestsSent.append {s t : State} {f : List Byte} (h : OnlyValidRequestsSent s) (hf : ValidRequest f)
    (ht : t.written = s.written ++ [f]) : OnlyValidRequestsSent t := by
  intro g hg
  rw [ht, List.mem_append, List.mem_singleton] at hg
  obtain hg | rfl := hg
  · exact h g hg
  · exact hf

/-- Settles O53: the only frame a step writes is the one TXBUF holds in SENT, by the invariant the request the encoder built, which
the decoder reads back. -/
theorem onlyValidRequestsReachTheChannel : Obligations.OnlyValidRequestsReachTheChannel := by
  refine ⟨fun s t hinv hsent hstep => ?_, fun f hf => slaveOk_iff.mp hf.slaveOk⟩
  obtain hsame | ⟨hstate, -, -, hwritten⟩ := step_written_cases hstep
  · intro f hf
    exact hsent f (hsame ▸ hf)
  · have hholds : HoldsRequest s := (hinv.running (busy_iff.mpr (.inl hstate))).1
    exact hsent.append hholds.validRequest hwritten

end Sys2Proof
end

