-- ==== Sys2Proof/Proofs/Invariant.lean ====
section
/-! PROOFS. The invariant of the exchange controller: it holds at reset and every step keeps it. The states a move can leave an
exchange in are told apart by STATE: in progress, ended by a verdict, rejected, none. For each there is one lemma that builds the
invariant from what that state records, and each move of `Move` then cites the one it needs. -/

namespace Sys2Proof

open Machine

/-! What the invariant does not look at -/

/-- `s` with every piece of state that no clause of `Inv` looks at set to its reset value. -/
def invView (s : State) : State :=
  { State.reset with
    state := s.state, status := s.status, excCode := s.excCode, rdataValid := s.rdataValid, rxCount := s.rxCount,
    expLen := s.expLen, txLen := s.txLen, wdata := s.wdata, rdata := s.rdata, lFc := s.lFc, lSlave := s.lSlave, lReg := s.lReg,
    lQty := s.lQty, lValue := s.lValue, lWdata := s.lWdata, txbuf := s.txbuf, rxbuf := s.rxbuf, settleT := s.settleT,
    sentPh := s.sentPh }

/-- The invariant looks at no more than its view. -/
theorem inv_invView {s : State} : Inv (invView s) ↔ Inv s := by
  constructor <;> (rintro ⟨⟩; constructor <;> assumption)

/-- A state with the same view meets the invariant too. -/
theorem Inv.of_invView_eq {s t : State} (h : Inv s) (hv : invView t = invView s) : Inv t := by
  rw [← inv_invView, hv, inv_invView]
  exact h

/-! The buffers -/

/-- The buffers and arrays are in canonical form. -/
structure BuffersWf (s : State) : Prop where
  txbufWf : Memory.wf Config.txbufSize s.txbuf = true
  rxbufWf : Memory.wf Config.rxbufSize s.rxbuf = true
  wdataWf : Memory.wf Config.maxWriteQty s.wdata = true
  lWdataWf : Memory.wf Config.maxWriteQty s.lWdata = true
  rdataWf : Memory.wf Config.maxReadQty s.rdata = true

theorem Inv.buffersWf {s : State} (h : Inv s) : BuffersWf s :=
  ⟨h.txbufWf, h.rxbufWf, h.wdataWf, h.lWdataWf, h.rdataWf⟩

/-- Latching keeps the form: the values it copies are at most MAX_WRITE_QTY (R73). -/
theorem BuffersWf.latch {s : State} (h : BuffersWf s) (fc : Byte) : BuffersWf (latch fc s) where
  txbufWf := h.txbufWf
  rxbufWf := h.rxbufWf
  wdataWf := h.wdataWf
  rdataWf := h.rdataWf
  lWdataWf := by
    rw [latch_lWdata]
    split
    · next hq =>
      have hqty : s.pQty.toNat ≤ Config.maxWriteQty := (writeQtyOk_iff.mp hq.2).2
      exact wf_memWrite h.lWdataWf (by simpa using hqty)
    · exact h.lWdataWf

/-- The request held fits TXBUF and its reply fits RXBUF (R43, R44). -/
theorem HoldsRequest.bounds {s : State} (h : HoldsRequest s) :
    s.txLen.toNat ≤ Config.txbufSize ∧ s.expLen.toNat ≤ Config.rxbufSize := by
  obtain ⟨-, htx, -, hexp⟩ := encodeRequest_bounds h
  rw [txFrame, memRead_length] at htx
  exact ⟨htx, hexp⟩

/-- A request recorded is held: TXBUF reads back as the frame (R110). -/
theorem holdsRequest_recordRequest {s : State} {f : List Byte} {e : HalfWord} (hwf : Memory.wf Config.txbufSize s.txbuf = true)
    (h : encodeLatched s = some (f, e)) : HoldsRequest (recordRequest f e s) := by
  obtain ⟨-, hlen, -, -⟩ := encodeRequest_bounds h
  have hn : (BitVec.ofNat 16 f.length).toNat = f.length := Nat.mod_eq_of_lt (by omega)
  have hframe : txFrame (recordRequest f e s) = f := by
    rw [txFrame, recordRequest_txLen, hn, recordRequest_txbuf, memRead_memWrite hwf (by rw [txbufSize_eq]; omega)]
  rw [HoldsRequest, hframe]
  exact h

/-! The invariant, by STATE -/

/-- The settle timer is at 0 outside the settle phase (R45). -/
theorem Inv.settleT_eq_zero {s : State} (h : Inv s) (hp : s.state = .sent → s.sentPh = .write) : s.settleT = 0#32 := by
  by_contra hne
  obtain ⟨hs, hset⟩ := h.settleTimer hne
  rw [hp hs] at hset
  cases hset

theorem Inv.settleT_eq_zero_of_not_busy {s : State} (h : Inv s) (hb : busy s = false) : s.settleT = 0#32 :=
  h.settleT_eq_zero fun hs => by simp [busy, hs] at hb

theorem Inv.settleT_eq_zero_of_awaiting {s : State} (h : Inv s) (hs : s.state = .awaiting) : s.settleT = 0#32 :=
  h.settleT_eq_zero fun hsent => by rw [hs] at hsent; cases hsent

/-- In progress: the request is held and no result shows (R162, R163, R235). -/
theorem inv_of_busy {s : State} (hwf : BuffersWf s) (hb : busy s = true) (hreq : HoldsRequest s)
    (hres : s.status = .none ∧ s.excCode = 0#8 ∧ s.rxCount = 0#16 ∧ s.rdataValid = false)
    (hsettle : s.settleT ≠ 0#32 → s.state = .sent ∧ s.sentPh = .settle) : Inv s := by
  obtain ⟨hstatus, hexc, hrx, hrv⟩ := hres
  have hstate : s.state ≠ .idle ∧ s.state ≠ .validated ∧ s.state ≠ .failed := by
    rcases busy_iff.mp hb with h | h <;> simp [h]
  obtain ⟨hidle, hval, hfail⟩ := hstate
  obtain ⟨htx, hexp⟩ := hreq.bounds
  constructor
  case notDone => exact fun _ => ⟨hstatus, hexc, hrx⟩
  case request => exact fun _ _ => hreq
  case settleTimer => exact hsettle
  case rdataValidIff => simp [hrv, hval]
  case txbufWf | rxbufWf | wdataWf | lWdataWf | rdataWf => cases hwf; assumption
  -- Every other clause states a value recorded above, or is about another STATE or STATUS.
  all_goals simp [*]

/-- With no exchange and nothing recorded (R47, R178). -/
theorem inv_clearAll {s : State} (hwf : BuffersWf s) (h0 : s.settleT = 0#32) : Inv (clearAll s) := by
  constructor
  case txbufWf | rxbufWf | wdataWf | lWdataWf | rdataWf => cases hwf; assumption
  -- Every other clause states a value recorded above, or is about another STATE or STATUS.
  all_goals simp [h0]

/-- A command rejected: INVALID_REQUEST, with no request and no other result (R164, R179). -/
theorem inv_rejectRequest {s : State} (hwf : BuffersWf s) (h0 : s.settleT = 0#32) : Inv (rejectRequest (clearResults s)) := by
  constructor
  case txbufWf | rxbufWf | wdataWf | lWdataWf | rdataWf => cases hwf; assumption
  -- Every other clause states a value recorded above, or is about another STATE or STATUS.
  all_goals simp [h0, done]

/-- An exchange about to end: its request is held, no result shows but the bytes captured, and the settle timer has stopped. -/
structure Ending (s : State) : Prop extends BuffersWf s where
  request : HoldsRequest s
  excCode : s.excCode = 0#8
  rdataValid : s.rdataValid = false
  rxCountBound : s.rxCount.toNat ≤ s.expLen.toNat
  settleStopped : s.settleT = 0#32

theorem Inv.ending {s : State} (h : Inv s) (hb : busy s = true) (h0 : s.settleT = 0#32) : Ending s := by
  obtain ⟨hreq, -, hexc, -, hrv⟩ := h.running hb
  exact ⟨h.buffersWf, hreq, hexc, hrv, h.rxCountBound, h0⟩

/-- Ended in a failure: what its status says of RX_COUNT is recorded (R170, R201, R203). -/
theorem Ending.inv_raise {s : State} (h : Ending s) {st : Status} {info : Info}
    (hst : st ≠ .none ∧ st ≠ .ok ∧ st ≠ .invalidRequest)
    (hinc : st = .incompleteResponse → s.rxCount.toNat < s.expLen.toNat)
    (htra : st = .transportError → s.rxCount = 0#16)
    (hfull : st = .checksumMismatch ∨ st = .exceptionResponse ∨ st = .echoMismatch → s.rxCount = s.expLen) :
    Inv (raise st info s) := by
  obtain ⟨hwf, hreq, hexc, hrv, hrx, h0⟩ := h
  obtain ⟨hnone, hok, hinv⟩ := hst
  obtain ⟨htx, hexp⟩ := hreq.bounds
  constructor
  case txbufWf | rxbufWf | wdataWf | lWdataWf | rdataWf => cases hwf; assumption
  case request => exact fun _ _ => hreq
  case excCodeZero => exact fun hne => (if_neg hne).trans hexc
  case fullInfo => exact fun h => hfull (h.resolve_left hok)
  -- Every other clause states a value recorded above, or is about another STATE or STATUS.
  all_goals simp_all [done]

/-- Ended with OK: RDATA and RDATA_VALID only for a read (R170, R171). -/
theorem Ending.inv_complete {s : State} (h : Ending s) {vs : List HalfWord} (hn : vs.length ≤ Config.maxReadQty)
    (hfull : s.rxCount = s.expLen) : Inv (complete vs s) := by
  obtain ⟨hwf, hreq, hexc, hrv, hrx, h0⟩ := h
  obtain ⟨htx, hexp⟩ := hreq.bounds
  constructor
  case rdataWf =>
    rw [complete_rdata]
    split
    · exact wf_memWrite hwf.rdataWf (by omega)
    · exact hwf.rdataWf
  case request =>
    exact fun _ _ => hreq.congr (complete_lFc _ _) (complete_lSlave _ _) (complete_lReg _ _) (complete_lQty _ _)
      (complete_lValue _ _) (complete_lWdata _ _) (complete_txbuf _ _) (complete_txLen _ _) (complete_expLen _ _)
  case txbufWf | rxbufWf | wdataWf | lWdataWf => cases hwf; simpa
  -- Every other clause states a value recorded above, or is about another STATE or STATUS.
  all_goals simp_all [done]

/-! The read's end -/

/-- A read ends with at most EXP_LEN bytes captured; the verdict on them is the validator's (R53, R169, R170). -/
theorem Inv.ending_capture {s : State} (h : Inv s) (hs : s.state = .awaiting) {r : List Byte} (hl : r.length ≤ s.expLen.toNat)
    (q : List Byte) (tt : Word) :
    Ending (capture r (readEnd q tt s)) ∧ (capture r (readEnd q tt s)).rxCount.toNat = r.length ∧
      verdictOn (capture r (readEnd q tt s)) = validate (txFrame s) s.expLen.toNat r := by
  have hr : r.length ≤ Config.rxbufSize := hl.trans h.expLenBound
  have hend : Ending s := h.ending (busy_iff.mpr (.inr hs)) (h.settleT_eq_zero_of_awaiting hs)
  have hrx : (capture r (readEnd q tt s)).rxCount.toNat = r.length := (rxFrame_capture (s := readEnd q tt s) h.rxbufWf hr).2
  refine ⟨⟨⟨h.txbufWf, wf_memWrite h.rxbufWf (by omega), h.wdataWf, h.lWdataWf, h.rdataWf⟩, hend.request, hend.excCode,
    hend.rdataValid, ?_, hend.settleStopped⟩, hrx, verdictOn_capture (s := readEnd q tt s) h.rxbufWf hr⟩
  rw [hrx]
  exact hl

/-- The request of a 0x03 exchange asks for L_QTY values, so that many the validator returns (R137, R139). -/
theorem validate_ok_length {s : State} (hreq : HoldsRequest s) (hfc : s.lFc = 0x03#8) {r : List Byte} {exp : Nat}
    {vs : List HalfWord} (hv : validate (txFrame s) exp r = some (.ok vs)) : vs.length = s.lQty.toNat := by
  obtain ⟨-, -, hbyte, hqty⟩ := hreq.header
  rw [hfc] at hbyte
  obtain ⟨-, h⟩ | ⟨-, h | h | h | ⟨h, -⟩ | ⟨-, -, h⟩⟩ := validate_cases hv
  case inr.inr.inr.inr.inl => simp [hbyte] at h
  case inr.inr.inr.inr.inr =>
    cases h
    rw [hqty hfc]
    simp [decodeValues]
  all_goals cases h

/-! The step -/

/-- A host write to WDATA writes an entry the array has (R40); the other registers it stores to are no part of the invariant. -/
theorem Inv.writeReg {s : State} (h : Inv s) (v : Word) (idx : RegIndex) : Inv (writeReg v s (hostReg idx)) := by
  cases hr : hostReg idx
  case wdata i =>
    have hwf : Memory.wf Config.maxWriteQty (writeCell s.wdata i (low16 v)) = true :=
      wf_writeCell h.wdataWf (hostReg_wdata_lt hr) _
    obtain ⟨⟩ := h
    constructor <;> assumption
  all_goals exact h.of_invView_eq rfl

/-- Time never starts the settle timer (R45). -/
theorem Inv.elapse {s : State} (h : Inv s) (n : Nat) : Inv (elapse n s) := by
  have hsettle : (countDown s.settleT n) ≠ 0#32 → s.state = .sent ∧ s.sentPh = .settle := by
    intro hne
    refine h.settleTimer fun h0 => hne (BitVec.eq_of_toNat_eq ?_)
    simp [h0]
  obtain ⟨⟩ := h
  constructor <;> assumption

/-- An exchange accepted holds the request of its latches (R110, R162, R163). -/
theorem Inv.accept {s : State} (h : Inv s) (hb : busy s = false) {fc : Byte} {f : List Byte} {e : HalfWord}
    (hf : encodeLatched (latched fc s) = some (f, e)) : Inv (startExchange (recordRequest f e (latched fc s))) := by
  have hwf := h.buffersWf.latch fc
  obtain ⟨-, hlen, -, -⟩ := encodeRequest_bounds hf
  refine inv_of_busy ⟨wf_memWrite hwf.txbufWf (by rw [txbufSize_eq]; omega), hwf.rxbufWf, hwf.wdataWf, hwf.lWdataWf, hwf.rdataWf⟩
    rfl (holdsRequest_recordRequest hwf.txbufWf hf) ⟨rfl, rfl, rfl, rfl⟩ fun hne => ?_
  exact absurd (h.settleT_eq_zero_of_not_busy hb) hne

/-- A move that keeps the exchange in progress, its request and the empty result: at most STATE, the phase and the settle timer
move (R166, R168). -/
theorem Inv.stays_busy {s t : State} (h : Inv s) (hb : busy s = true) (hbt : busy t = true)
    (hview : invView t = invView { s with state := t.state, sentPh := t.sentPh, settleT := t.settleT })
    (hsettle : t.settleT ≠ 0#32 → t.state = .sent ∧ t.sentPh = .settle) : Inv t := by
  obtain ⟨hreq, hres⟩ := h.running hb
  refine Inv.of_invView_eq (s := { s with state := t.state, sentPh := t.sentPh, settleT := t.settleT }) ?_ hview
  exact inv_of_busy ⟨h.txbufWf, h.rxbufWf, h.wdataWf, h.lWdataWf, h.rdataWf⟩ hbt hreq hres hsettle

/-- A transport error ends the exchange with no capture (R165, R166, R169, R201). -/
theorem Inv.transportError {s : State} (h : Inv s) (hb : busy s = true) (h0 : s.settleT = 0#32) :
    Inv (raise .transportError .none s) :=
  (h.ending hb h0).inv_raise (by decide) nofun (fun _ => (h.running hb).2.2.2.1) (by simp)

/-- The failures of a read that ended record what R201 says of each (R131, R170). -/
theorem Inv.readFailed {s : State} (h : Inv s) (hs : s.state = .awaiting) {r : List Byte} (hl : r.length ≤ s.expLen.toNat)
    {q : List Byte} {tt : Word} {st : Status} {info : Info}
    (hv : verdictOn (capture r (readEnd q tt s)) = some (.fail st info)) : Inv (raise st info (capture r (readEnd q tt s))) := by
  obtain ⟨hend, hrx, hverdict⟩ := h.ending_capture hs hl q tt
  obtain ⟨hshort, hst⟩ | ⟨hfull, hst⟩ := validate_cases (hverdict ▸ hv)
  · cases hst
    exact hend.inv_raise (by decide) (fun _ => by rw [hrx]; exact hshort) nofun (by simp)
  · have hfull : (capture r (readEnd q tt s)).rxCount = s.expLen := BitVec.eq_of_toNat_eq (hrx.trans hfull)
    rcases hst with h | h | h | ⟨-, h⟩ | ⟨-, -, h⟩ <;> cases h
    all_goals exact hend.inv_raise (by decide) nofun nofun fun _ => hfull

/-- A read that ended with OK has a full capture (R131, R171). -/
theorem Inv.readValidated {s : State} (h : Inv s) (hs : s.state = .awaiting) {r : List Byte} (hl : r.length ≤ s.expLen.toNat)
    {q : List Byte} {tt : Word} {vs : List HalfWord} (hn : vs.length ≤ Config.maxReadQty)
    (hv : verdictOn (capture r (readEnd q tt s)) = some (.ok vs)) : Inv (complete vs (capture r (readEnd q tt s))) := by
  obtain ⟨hend, hrx, hverdict⟩ := h.ending_capture hs hl q tt
  obtain ⟨-, hst⟩ | ⟨hfull, -⟩ := validate_cases (hverdict ▸ hv)
  · cases hst
  · exact hend.inv_complete hn (BitVec.eq_of_toNat_eq (hrx.trans hfull))

/-- Settles O50: nothing is recorded and every buffer is empty. -/
theorem resetStateMeetsTheInvariant : Obligations.ResetStateMeetsTheInvariant :=
  inv_clearAll (s := State.reset) ⟨rfl, rfl, rfl, rfl, rfl⟩ rfl

/-- Every move keeps the invariant. -/
theorem Inv.move {e : Option Event} {s t : State} (h : Inv s) (m : Move e s t) : Inv t := by
  cases m with
  | stay => exact h
  | hostWrite v idx _ => exact h.writeReg v idx
  | hostRead | crcInit | crcByte | overrun | queue | chOpen => exact h.of_invView_eq rfl
  | accept fc f n _ hb hf => exact h.accept hb hf
  | reject fc _ hb => exact inv_rejectRequest (h.buffersWf.latch fc) (h.settleT_eq_zero_of_not_busy hb)
  | reserved hb => exact inv_rejectRequest h.buffersWf (h.settleT_eq_zero_of_not_busy hb)
  | clear _ hb => exact inv_clearAll h.buffersWf (h.settleT_eq_zero_of_not_busy hb)
  | closed hs hp => exact h.transportError (busy_iff.mpr (.inl hs)) (h.settleT_eq_zero fun _ => hp)
  | wrote hs => exact h.stays_busy (busy_iff.mpr (.inl hs)) (busy_iff.mpr (.inl hs)) rfl fun _ => ⟨hs, rfl⟩
  | writeFailed hs hp =>
    exact (h.transportError (busy_iff.mpr (.inl hs)) (h.settleT_eq_zero fun _ => hp)).of_invView_eq rfl
  | issueRead hs _ h0 => exact h.stays_busy (busy_iff.mpr (.inl hs)) rfl rfl fun hne => absurd h0 hne
  | readError q hs =>
    exact (h.transportError (busy_iff.mpr (.inr hs)) (h.settleT_eq_zero_of_awaiting hs)).of_invView_eq rfl
  | validated r q tt vs hs hl _ hv hn => exact h.readValidated hs hl hn hv
  | failed r q tt st info hs hl _ hv => exact h.readFailed hs hl hv
  | elapse n => exact h.elapse n
  | reset => exact Inv.of_invView_eq resetStateMeetsTheInvariant rfl

/-- Settles O51, by the moves a step can make. -/
theorem stepKeepsTheInvariant : Obligations.StepKeepsTheInvariant := fun _ _ h hstep =>
  (h.of_invView_eq rfl : Inv (popEvent _)).move (step_move hstep)

/-- Settles O58: only a read that ends with OK writes RDATA, and the values it writes are L_QTY of them. -/
theorem onlyAValidatedReadWritesRdata : Obligations.OnlyAValidatedReadWritesRdata := by
  intro s t hinv hstep hreset
  have hpop : Inv (popEvent s) := hinv.of_invView_eq rfl
  cases step_move hstep
  case reset he => exact absurd he hreset
  case validated r q tt vs hs hl hr hv hn =>
    by_cases hfc : s.lFc = 0x03#8
    · refine .inl ⟨hs, hfc, by simp, by simp, fun i hi => ?_⟩
      obtain ⟨-, -, hverdict⟩ := hpop.ending_capture hs hl q tt
      have hlen : vs.length = s.lQty.toNat :=
        validate_ok_length (hpop.running (busy_iff.mpr (.inr hs))).1 hfc (hverdict ▸ hv)
      simp [hfc, readCell_memWrite hinv.rdataWf (vs := vs) (i := 0) (by omega), hlen, hi]
    · exact .inr (by simp [hfc])
  all_goals exact .inr (by simp)

end Sys2Proof
end

