-- ==== Sys2Proof/Proofs/HostRegisters.lean ====
section
/-! PROOFS. The host's side: what a register write and a register read do, field by field, where STAT's fields stand, and what a
busy engine does with a command. -/

namespace Sys2Proof

open Machine

/-! A host access as a step -/

/-- A write to CTRL runs the command its value decodes to (R23, R70). -/
theorem step_ctrlWrite {s : State} {v : Word} {rest : List Event} (h : s.events = .host (.write 0#10 v) :: rest) :
    step s = exec (decodeCtrl v) { s with events := rest } := by
  rw [step_cons h, react, hostAccess, hostReg_eq_ctrl.mpr rfl]

/-- A write to any other index stores (R22). -/
theorem step_hostWrite {s : State} {idx : RegIndex} {v : Word} {rest : List Event} (hidx : idx ≠ 0#10)
    (h : s.events = .host (.write idx v) :: rest) :
    step s = .next (writeReg v { s with events := rest } (hostReg idx)) := by
  have hctrl : hostReg idx ≠ .ctrl := fun hc => hidx (hostReg_eq_ctrl.mp hc)
  rw [step_cons h, react, hostAccess]
  split
  · contradiction
  · rfl

/-- The register map does not show the events to come. -/
@[simp] theorem readReg_events (s : State) (es : List Event) (r : HostReg) : readReg { s with events := es } r = readReg s r := by
  cases r <;> rfl

/-- A read returns the register (R51). -/
theorem step_hostRead {s : State} {idx : RegIndex} {rest : List Event} (h : s.events = .host (.read idx) :: rest) :
    step s = .next { s with hostData := readReg s (hostReg idx), events := rest } := by
  rw [step_cons h, react, hostAccess, readReg_events]

/-- Settles O5. -/
theorem stepRunsTheCommandWrittenToCtrl : Obligations.StepRunsTheCommandWrittenToCtrl :=
  fun _ _ _ h => step_ctrlWrite h

/-- Settles O29: a register write stores to one of eight fields, or nowhere. -/
theorem hostWritesLeaveTheExchange : Obligations.HostWritesLeaveTheExchange := by
  intro s idx v rest hidx h
  rw [step_hostWrite hidx h]
  cases hostReg idx <;> exact ⟨_, _, _, _, _, _, _, _, rfl⟩

/-! The register map -/

/-- The registers below WDATA (R22). -/
theorem hostReg_numbered :
    hostReg 0x001#10 = .pSlave ∧ hostReg 0x002#10 = .pReg ∧ hostReg 0x003#10 = .pQty ∧ hostReg 0x004#10 = .pValue ∧
      hostReg 0x005#10 = .crcIn ∧ hostReg 0x006#10 = .cfgSettle ∧ hostReg 0x007#10 = .cfgTimeout ∧ hostReg 0x008#10 = .stat ∧
      hostReg 0x009#10 = .rxCount ∧ hostReg 0x00A#10 = .crcAcc ∧ hostReg 0x00B#10 = .expLen ∧ hostReg 0x00C#10 = .txLen := by
  decide

/-- A mapped register is selected by its own index (R22). -/
theorem regIndexOf_hostReg : ∀ {idx : RegIndex}, hostReg idx ≠ .unmapped → regIndexOf (hostReg idx) = idx.toNat := by
  decide +kernel

/-- Between and past the registers nothing is mapped (R22). -/
theorem hostReg_ctrl_or_unmapped : ∀ {idx : RegIndex},
    idx.toNat = 0 ∨ (0x0D ≤ idx.toNat ∧ idx.toNat < 0x100) ∨ (0x17B ≤ idx.toNat ∧ idx.toNat < 0x200) ∨ 0x27D ≤ idx.toNat →
      hostReg idx = .ctrl ∨ hostReg idx = .unmapped := by
  decide +kernel

/-! What a register write does -/

/-- A byte register holds bits [7:0] of what was written (R24, R28). -/
theorem setWidth_low8 (v : Word) : (low8 v).setWidth 32 = v &&& 0xFF#32 := by
  apply BitVec.eq_of_toNat_eq
  have hmask : v.toNat &&& 0xFF = v.toNat % 2 ^ 8 := Nat.and_two_pow_sub_one_eq_mod v.toNat 8
  simp [low8, hmask]
  omega

/-- A half-word register holds bits [15:0] of what was written (R25 to R27, R40). -/
theorem setWidth_low16 (v : Word) : (low16 v).setWidth 32 = v &&& 0xFFFF#32 := by
  apply BitVec.eq_of_toNat_eq
  have hmask : v.toNat &&& 0xFFFF = v.toNat % 2 ^ 16 := Nat.and_two_pow_sub_one_eq_mod v.toNat 16
  simp [low16, hmask]
  omega

/-- STAT is made of fields no register write stores to (R31). -/
@[simp] theorem stat_writeReg (v : Word) (s : State) (r : HostReg) : stat (writeReg v s r) = stat s := by
  simp [stat, busy, done]

/-- An entry of WDATA changes only by a write to that entry (R40). -/
theorem readCell_wdata_writeReg_ne {s : State} (hwf : Memory.wf Config.maxWriteQty s.wdata = true) (v : Word)
    {r : HostReg} {i : Nat} (hr : r ≠ .wdata i) : readCell (writeReg v s r).wdata i = readCell s.wdata i := by
  cases r
  case wdata j =>
    have hji : j ≠ i := fun h => hr (h ▸ rfl)
    exact (readCell_writeCell hwf j _ i).trans (if_neg hji)
  all_goals rfl

/-- A write to one register leaves every other one (R22). -/
theorem readReg_writeReg_ne {s : State} (hwf : Memory.wf Config.maxWriteQty s.wdata = true) (v : Word) {r r' : HostReg}
    (hr : r ≠ r') : readReg (writeReg v s r) r' = readReg s r' := by
  cases r'
  case wdata i => rw [readReg, readCell_wdata_writeReg_ne hwf v hr, readReg]
  case stat | rxCount | crcAcc | expLen | txLen | rdata => simp [readReg]
  case ctrl | unmapped => rfl
  all_goals cases r <;> simp [readReg, writeReg] at hr ⊢

/-- A write to a register the host cannot store to, or to no register, is ignored (R22). -/
theorem writeReg_readOnly {idx : RegIndex} (h : (8 ≤ idx.toNat ∧ idx.toNat < 0x100) ∨ 0x17B ≤ idx.toNat) (v : Word) (s : State) :
    writeReg v s (hostReg idx) = s := by
  have hidx : hostReg idx ≠ .unmapped → regIndexOf (hostReg idx) = idx.toNat := regIndexOf_hostReg
  cases hr : hostReg idx
  case stat | rxCount | crcAcc | expLen | txLen | rdata | unmapped | ctrl => rfl
  case wdata i =>
    have hi : i < 123 := hostReg_wdata_lt hr
    simp [hr, regIndexOf] at hidx
    omega
  all_goals
    simp [hr, regIndexOf] at hidx
    omega

/-- Settles O44: each writable register's field, then every other register by `readReg_writeReg_ne`. -/
theorem writableRegistersReadBack : Obligations.WritableRegistersReadBack := by
  intro s idx v rest hidx hwf h
  obtain ⟨rSlave, rReg, rQty, rValue, rCrcIn, rSettle, rTimeout, -⟩ := hostReg_numbered
  refine ⟨_, step_hostWrite hidx h, fun hm => ?_, fun hm => ?_, fun hm => ?_, fun hlo hhi => ?_, fun idx' hne => ?_⟩
  · simp only [List.mem_cons, List.not_mem_nil, or_false] at hm
    obtain rfl | rfl := hm
    · rw [rSlave]; exact setWidth_low8 v
    · rw [rCrcIn]; exact setWidth_low8 v
  · simp only [List.mem_cons, List.not_mem_nil, or_false] at hm
    obtain rfl | rfl | rfl := hm
    · rw [rReg]; exact setWidth_low16 v
    · rw [rQty]; exact setWidth_low16 v
    · rw [rValue]; exact setWidth_low16 v
  · simp only [List.mem_cons, List.not_mem_nil, or_false] at hm
    obtain rfl | rfl := hm
    · rw [rSettle]; rfl
    · rw [rTimeout]; rfl
  · obtain ⟨i, hi⟩ := Nat.exists_eq_add_of_le hlo
    rw [hostReg_wdata (by omega) hi]
    have hcell : readCell (writeCell s.wdata i (low16 v)) i = low16 v := (readCell_writeCell hwf i _ i).trans (if_pos rfl)
    exact (congrArg (BitVec.setWidth 32) hcell).trans (setWidth_low16 v)
  · by_cases hu : hostReg idx' = .unmapped
    · rw [hu]; rfl
    · rw [readReg_writeReg_ne (s := { s with events := rest }) hwf v (hostReg_injective hne hu).symm, readReg_events]

/-- Settles O45. -/
theorem readOnlyAndUnmappedIgnoreWrites : Obligations.ReadOnlyAndUnmappedIgnoreWrites := by
  intro s idx rest
  refine ⟨fun v hidx h => ?_, fun hidx h => ?_⟩
  · have hne : idx ≠ 0#10 := by
      rintro rfl
      simp at hidx
    rw [step_hostWrite hne h, writeReg_readOnly hidx]
  · rw [step_hostRead h]
    obtain hr | hr := hostReg_ctrl_or_unmapped hidx <;> rw [hr, readReg]

/-! What a register read returns -/

/-- Settles O46: the read returns its register and stores nothing but that; the register at each index is its field. -/
theorem hostReadsHaveNoOtherEffect : Obligations.HostReadsHaveNoOtherEffect := by
  intro s idx rest h
  obtain ⟨rSlave, rReg, rQty, rValue, rCrcIn, rSettle, rTimeout, rStat, rRxCount, rCrcAcc, rExpLen, rTxLen⟩ := hostReg_numbered
  refine ⟨_, step_hostRead h, rfl, ?_, ?_, ?_, ?_, ?_, ?_, ?_, ?wdata, ?_, ?_, ?_, ?_, ?_, ?rdata⟩
  case wdata =>
    intro i hi hidx
    rw [hostReg_wdata hi hidx]
    exact BitVec.toNat_setWidth_of_le (by decide)
  case rdata =>
    intro i hi hidx
    rw [hostReg_rdata hi hidx]
    exact BitVec.toNat_setWidth_of_le (by decide)
  all_goals rintro rfl
  all_goals simp only [readReg, *, BitVec.toNat_setWidth_of_le, Nat.reduceLeDiff]

/-- Settles O47: STAT is the concatenation of its fields, and the encodings of STATE and STATUS number their values in order. -/
theorem statFieldsArePlaced : Obligations.StatFieldsArePlaced := by
  intro s
  obtain ⟨hstate, hstatus, hexc, hvalid, hover, hbusy, hdone, h3, hhigh⟩ :=
    statLayout_fields (done s) (busy s) s.overrun s.rdataValid s.excCode (statusCode s.status) (stateCode s.state)
  refine ⟨?_, ?_, hexc, hvalid, hover, hbusy.trans ?_, hdone.trans ?_, h3, hhigh⟩
  · rw [stat, hstate]
    cases s.state <;> rfl
  · rw [stat, hstatus]
    cases s.status <;> rfl
  · rw [Bool.eq_iff_iff, busy_iff, decide_eq_true_iff]
  · rw [Bool.eq_iff_iff, done_iff, decide_eq_true_iff]

/-! A busy engine -/

/-- An exchange command while BUSY is dropped with OVERRUN (R161). -/
theorem exchangeCommand_of_busy {s : State} (fc : Byte) (hb : busy s = true) : exchangeCommand fc s = overrunOnly s :=
  if_pos hb

/-- Settles O26: every command but the CRC ones looks at BUSY first (R161). -/
theorem busyEngineDropsCommands : Obligations.BusyEngineDropsCommands := by
  intro s hb
  refine ⟨fun i hi => ?_, fun c => ?_, ?_⟩
  · simp only [List.mem_cons, List.not_mem_nil, or_false] at hi
    obtain rfl | rfl | rfl | rfl := hi
    · exact congrArg _ (exchangeCommand_of_busy 0x03#8 hb)
    · exact congrArg _ (exchangeCommand_of_busy 0x06#8 hb)
    · exact congrArg _ (exchangeCommand_of_busy 0x10#8 hb)
    · exact congrArg _ (if_pos hb)
  · exact congrArg _ (if_pos hb)
  · exact congrArg _ (exchangeCommand_of_busy (s := { s with pQty := 1#16 }) 0x03#8 hb)

end Sys2Proof
end

