-- ==== Sys2Proof/Proofs/WholeMachine.lean ====
section
/-! PROOFS. Rules that hold of every step: which moves write CRC_ACC and OVERRUN, what reset gives, what the moves of the channel
and of time change, and when a read that stays short ends. -/

namespace Sys2Proof

open Machine

/-! What no other move writes -/

/-- Settles O13: no move but the CRC commands' and reset's writes CRC_ACC. -/
theorem onlyCrcCommandsWriteTheAccumulator : Obligations.OnlyCrcCommandsWriteTheAccumulator := by
  intro s t hstep hreset hinit hbyte
  cases step_move hstep
  case crcInit he => exact absurd he hinit
  case crcByte he => exact absurd he hbyte
  case reset he => exact absurd he hreset
  all_goals simp

/-- Settles O57: no move but CLEAR's and reset's clears OVERRUN. -/
theorem overrunIsSticky : Obligations.OverrunIsSticky := by
  intro s t hstep hover hreset hclear
  cases step_move hstep
  case clear he _ => exact absurd he hclear
  case reset he => exact absurd he hreset
  all_goals simp [hover]

/-! Reset -/

/-- Settles O49. -/
theorem resetAbandonsTheExchange : Obligations.ResetAbandonsTheExchange := by
  intro s rest h
  rw [step_cons h]
  rfl

/-- An exchange command to a slave no request may carry ends in INVALID_REQUEST (R111, R164). -/
theorem exchangeCommand_slave_invalid {s : State} (fc : Byte) (hb : busy s = false) (hs : slaveOk s.pSlave = false) :
    exchangeCommand fc s = rejectRequest (latched fc s) := by
  rw [exchangeCommand, if_neg (by simp [hb])]
  obtain ⟨f, e, hf, -⟩ | ⟨-, h⟩ := acceptExchange_cases fc s
  · have hok : slaveOk s.pSlave = true := (encodeRequest_cases hf).1
    rw [hs] at hok
    cases hok
  · exact h

/-- Settles O48: the table by computing `State.reset`, then the four exchange commands with slave 0. -/
theorem resetGivesTheValuesOfTheTable : Obligations.ResetGivesTheValuesOfTheTable := by
  refine ⟨rfl, rfl, rfl, rfl, rfl, rfl, rfl, rfl, rfl, rfl, rfl, rfl, rfl, rfl, rfl, rfl, rfl, rfl, fun _ => rfl, fun _ => rfl, rfl,
    rfl, fun i hi u hslave hb => ?_⟩
  have hreject : ∀ (fc : Byte) (v : State), v.pSlave = u.pSlave → busy v = false →
      (exchangeCommand fc v).state = .failed ∧ (exchangeCommand fc v).status = .invalidRequest := by
    intro fc v hv hbv
    rw [exchangeCommand_slave_invalid fc hbv (by rw [hv, hslave]; decide)]
    exact ⟨rfl, rfl⟩
  simp only [List.mem_cons, List.not_mem_nil, or_false] at hi
  obtain rfl | rfl | rfl | rfl := hi
  · exact ⟨_, rfl, hreject 0x03#8 u rfl hb⟩
  · exact ⟨_, rfl, hreject 0x03#8 { u with pQty := 1#16 } rfl hb⟩
  · exact ⟨_, rfl, hreject 0x06#8 u rfl hb⟩
  · exact ⟨_, rfl, hreject 0x10#8 u rfl hb⟩

/-! The moves of the channel and of time -/

/-- Time counts both timers down and does nothing else (R45, R216). -/
theorem step_elapse {s : State} {n : Nat} {rest : List Event} (h : s.events = .elapse n :: rest) :
    step s = .next { s with settleT := countDown s.settleT n, timeoutT := countDown s.timeoutT n, events := rest } := by
  rw [step_cons h]
  rfl

/-- Settles O43. -/
theorem repliesOutsideAReadWait : Obligations.RepliesOutsideAReadWait := by
  refine ⟨fun s i hi hs => ?_, fun s rest => ⟨fun bytes h => ?_, fun n h => ?_, fun b h => ?_, fun n h => ?_⟩⟩
  · rw [exec_response hi, deliver_waits hs, arrive]
  · rw [step_cons h, react, arrive]
  · rw [step_cons h, react]
  · rw [step_cons h, react]
  · exact ⟨_, step_elapse h, countDown_toNat _ _, countDown_toNat _ _, rfl⟩

/-! A read that stays short -/

/-- A timer at 0 stays there (R45). -/
@[simp] theorem countDown_zero (n : Nat) : countDown 0#32 n = 0#32 := BitVec.eq_of_toNat_eq (by simp)

/-- A timer reaches 0 once as many units have passed as it held (R45). -/
theorem countDown_eq_zero_iff {t : Word} {n : Nat} : countDown t n = 0#32 ↔ t.toNat ≤ n := by
  rw [← BitVec.toNat_inj, countDown_toNat]
  simp [Nat.sub_eq_zero_iff_le]

/-- The settle delay over, the read is issued (R168). -/
theorem step_issueRead {s : State} {a : ChanAnswer} {rest : List Event} (hs : s.state = .sent) (hp : s.sentPh = .settle)
    (h0 : s.settleT = 0#32) (h : s.events = .engine a :: rest) :
    step s = .next { s with state := .awaiting, timeoutT := s.lTimeout, events := rest } := by
  rw [step_cons h]
  simp [react, engineTurn, settleTurn, hs, hp, h0]

/-- The engine's turn in AWAITING is the read step (R169). -/
theorem step_readTurn {s : State} {a : ChanAnswer} {rest : List Event} (hs : s.state = .awaiting)
    (h : s.events = .engine a :: rest) : step s = readTurn a { s with events := rest } := by
  rw [step_cons h]
  simp [react, engineTurn, hs]

/-- A capture holds the bytes read; RXBUF past them is as before (R53). -/
theorem captured_capture {s : State} (hwf : Memory.wf Config.rxbufSize s.rxbuf = true) {r : List Byte}
    (hr : r.length ≤ Config.rxbufSize) : Captured r s (capture r s) := by
  obtain ⟨hframe, hcount⟩ := rxFrame_capture hwf hr
  refine ⟨hcount, hframe, fun j hj => ?_⟩
  rw [capture_rxbuf, readCell_memWrite hwf (by omega), if_neg (by omega)]

/-- Fewer bytes than expected complete the read as INCOMPLETE_RESPONSE (R132, R202). -/
theorem completeRead_short {s : State} (hwf : Memory.wf Config.rxbufSize s.rxbuf = true) (htx : s.txLen.toNat ≤ Config.txbufSize)
    (hexp : s.expLen.toNat ≤ Config.rxbufSize) {r : List Byte} (hr : r.length < s.expLen.toNat) :
    completeRead r s = .next (raise .incompleteResponse (.count r.length) (capture r s)) := by
  have hlen : r.length ≤ Config.rxbufSize := by omega
  have hverdict : verdictOn (capture r s) = some (.fail .incompleteResponse (.count r.length)) := by
    rw [verdictOn_capture hwf hlen, validate, if_neg (by omega), if_pos hr]
  rw [completeRead, if_neg (by omega)]
  exact congrArg (recordVerdict · (capture r s)) hverdict

/-- A short read on an open channel goes on while TIMEOUT_T runs (R181). -/
theorem readTurn_goes_on {s : State} {c : Nat} (ho : s.chOpen = true) (hq : s.inputQueue.length < s.expLen.toNat)
    (ht : s.timeoutT ≠ 0#32) : readTurn (.done c) s = .next s := by
  simp [readTurn, replyComplete, ho, ht, hq]

/-- At TIMEOUT_T = 0 a short read ends with all the bytes that wait (R181, R202). -/
theorem readTurn_times_out {s : State} {c : Nat} (hwf : Memory.wf Config.rxbufSize s.rxbuf = true)
    (htx : s.txLen.toNat ≤ Config.txbufSize) (hexp : s.expLen.toNat ≤ Config.rxbufSize) (ho : s.chOpen = true)
    (hq : s.inputQueue.length < s.expLen.toNat) (ht : s.timeoutT = 0#32) :
    readTurn (.done c) s =
      .next (raise .incompleteResponse (.count s.inputQueue.length) (capture s.inputQueue { s with inputQueue := [] })) := by
  have htake : readTurn (.done c) s = completeRead s.inputQueue { s with inputQueue := [] } := by
    simp [readTurn, takeReply, ho, ht, List.take_of_length_le hq.le, List.drop_of_length_le hq.le]
  rw [htake]
  exact completeRead_short (s := { s with inputQueue := [] }) hwf htx hexp hq

/-- Settles O60: the read is issued with TIMEOUT_T = L_TIMEOUT, time counts it down, and the read step ends at 0 and not before. -/
theorem readTimeoutCountsFromTheRead : Obligations.ReadTimeoutCountsFromTheRead := by
  refine ⟨fun s n rest hinv hs h => ?_, fun s a n c rest hinv hs hp h0 ho hq h => ?_⟩
  · have hsettle : countDown s.settleT n = s.settleT := by rw [hinv.settleT_eq_zero_of_awaiting hs, countDown_zero]
    refine ⟨_, step_elapse h, countDown_toNat _ _, ?_⟩
    rw [hsettle]
  · have hsettle : countDown s.settleT n = s.settleT := by rw [h0, countDown_zero]
    rw [run_succ_next (step_issueRead hs hp h0 h), run_succ_next (step_elapse rfl), hsettle]
    by_cases hn : n < s.lTimeout.toNat
    · have ht : countDown s.lTimeout n ≠ 0#32 := fun hz => by
        have := countDown_eq_zero_iff.mp hz
        omega
      refine ⟨_, run_succ_next ((step_readTurn rfl rfl).trans (readTurn_goes_on ho hq ht)),
        fun _ => ⟨countDown_toNat _ _, rfl⟩, fun hle => absurd hn (by omega)⟩
    · have ht : countDown s.lTimeout n = 0#32 := countDown_eq_zero_iff.mpr (by omega)
      have hcap : Captured s.inputQueue s (capture s.inputQueue s) :=
        captured_capture hinv.rxbufWf (hq.le.trans hinv.expLenBound)
      refine ⟨_, run_succ_next ((step_readTurn rfl rfl).trans
        (readTurn_times_out hinv.rxbufWf hinv.txLenBound hinv.expLenBound ho hq ht)),
        fun hlt => absurd hlt hn, fun _ => ⟨hcap, ?_⟩⟩
      rw [ht]
      rfl

end Sys2Proof
end

/-! PROOFS. The course of one exchange: a read that ends is recorded with the validator's verdict, the write step is the only one
that writes and the exchange does not come back to it, and the schedule of the engine's steps ends in DONE. -/

namespace Sys2Proof

open Machine

/-! Read completion -/

/-- No reply of at most the expected length is outside the validator's domain (R142). -/
theorem validate_eq_some {req r : List Byte} {exp : Nat} (h : r.length ≤ exp) : ∃ v, validate req exp r = some v := by
  rw [← Option.isSome_iff_exists]
  unfold validate
  rw [if_neg (by omega)]
  repeat' split
  all_goals rfl

/-- The values of a verdict on the request held fit RDATA: L_QTY of them for a read, none for a write (R112, R137, R139). -/
theorem HoldsRequest.ok_length_le {s : State} (hreq : HoldsRequest s) {r : List Byte} {exp : Nat} {vs : List HalfWord}
    (hv : validate (txFrame s) exp r = some (.ok vs)) : vs.length ≤ Config.maxReadQty := by
  obtain ⟨-, -, hbyte, -⟩ := hreq.header
  obtain ⟨-, h⟩ | ⟨-, h | h | h | ⟨-, h⟩ | ⟨h6, h10, -⟩⟩ := validate_cases hv
  case inr.inr.inr.inr.inl => cases h; exact Nat.zero_le _
  case inr.inr.inr.inr.inr =>
    obtain ⟨-, ⟨hfc, hq, -⟩ | ⟨hfc, -⟩ | ⟨hfc, -⟩⟩ := encodeRequest_cases hreq
    · rw [validate_ok_length hreq hfc hv]
      exact (readQtyOk_iff.mp hq).2
    · exact absurd (hbyte.trans hfc) h6
    · exact absurd (hbyte.trans hfc) h10
  all_goals cases h

/-- Read completion with at most EXP_LEN bytes neither faults nor is refused (R142; logs 13, 14). -/
theorem Inv.completeRead_next {s : State} (h : Inv s) (hs : s.state = .awaiting) {r : List Byte}
    (hl : r.length ≤ s.expLen.toNat) : ∃ t, completeRead r s = .next t := by
  have hr : r.length ≤ Config.rxbufSize := hl.trans h.expLenBound
  have htx := h.txLenBound
  have hreq : HoldsRequest s := (h.running (busy_iff.mpr (.inr hs))).1
  obtain ⟨v, hv⟩ := validate_eq_some (req := txFrame s) hl
  have hrecord : completeRead r s = recordVerdict (some v) (capture r s) := by
    rw [completeRead, if_neg (by omega), ← hv, ← verdictOn_capture h.rxbufWf hr]
  rw [hrecord]
  cases v with
  | fail st info => exact ⟨_, rfl⟩
  | ok vs => exact ⟨_, if_neg (Nat.not_lt.mpr (hreq.ok_length_le hv))⟩

/-- `t` is `s` with its read ended on the bytes `r`: DONE with the validator's verdict on the request held and the capture, the
channel's queue and the events to come as they were (R169 to R171). -/
structure ReadEnded (r : List Byte) (s t : State) : Prop where
  done : done t = true
  captured : Captured r s t
  inputQueue : t.inputQueue = s.inputQueue
  events : t.events = s.events
  verdict : ∃ v, validate (txFrame s) s.expLen.toNat r = some v ∧
    (∀ values, v = .ok values → t.state = .validated ∧ t.status = .ok) ∧
    (∀ st info, v = .fail st info → t.state = .failed ∧ t.status = st)

/-- Read completion ends the read. -/
theorem Inv.completeRead_ends {s : State} (h : Inv s) (hs : s.state = .awaiting) {r : List Byte}
    (hl : r.length ≤ s.expLen.toNat) : ∃ t, completeRead r s = .next t ∧ ReadEnded r s t := by
  obtain ⟨t, ht⟩ := h.completeRead_next hs hl
  refine ⟨t, ht, ?_⟩
  obtain ⟨hr, -, hcases⟩ := completeRead_cases ht
  rw [verdictOn_capture h.rxbufWf hr] at hcases
  have hcap : Captured r s (capture r s) := captured_capture h.rxbufWf hr
  obtain ⟨vs, hv, -, rfl⟩ | ⟨st, info, hv, rfl⟩ := hcases
  · have hcap' : Captured r s (complete vs (capture r s)) := by
      simpa [Captured, rxFrame] using hcap
    exact ⟨by simp [Machine.done], hcap', by simp, by simp, _, hv, fun _ _ => by simp, nofun⟩
  · exact ⟨rfl, hcap, rfl, rfl, _, hv, nofun, fun _ _ he => by cases he; exact ⟨rfl, rfl⟩⟩

/-- On an open channel, with an answer, the read ends at EXP_LEN bytes or at TIMEOUT_T = 0 (R181). -/
theorem readTurn_takes {s : State} {a : ChanAnswer} (ha : a ≠ .err) (ho : s.chOpen = true)
    (hend : replyComplete s = true ∨ s.timeoutT = 0#32) : readTurn a s = takeReply s := by
  rw [readTurn, if_neg (by simp [ha, ho]), if_pos hend]

/-- What the read step takes off the queue ends the read (R55, R181, R238). -/
theorem Inv.takeReply_ends {s : State} (h : Inv s) (hs : s.state = .awaiting) :
    ∃ t, takeReply s = .next t ∧
      ReadEnded (s.inputQueue.take s.expLen.toNat) { s with inputQueue := s.inputQueue.drop s.expLen.toNat } t :=
  (h.of_invView_eq rfl : Inv { s with inputQueue := s.inputQueue.drop s.expLen.toNat }).completeRead_ends hs
    (take_expLen_length s)

/-- Settles O33: the read step takes at most EXP_LEN bytes and completes, or goes on while the read is short and TIMEOUT_T runs. -/
theorem readEndsAtLengthOrTimeout : Obligations.ReadEndsAtLengthOrTimeout := by
  intro s n rest hinv hs ho h
  rw [step_readTurn hs h]
  refine ⟨fun hend => ?_, fun hshort ht => readTurn_goes_on ho hshort ht⟩
  have hend' : replyComplete { s with events := rest } = true ∨ s.timeoutT = 0#32 := by simpa [replyComplete] using hend
  have htake : readTurn (.done n) { s with events := rest } = takeReply { s with events := rest } :=
    readTurn_takes nofun ho hend'
  obtain ⟨t, ht, hdone, hcap, hqueue, -, v, hv, hok, hfail⟩ :=
    (hinv.of_invView_eq rfl : Inv { s with events := rest }).takeReply_ends hs
  exact ⟨htake, t, v, htake.trans ht, hdone, hcap, hqueue, hv, hok, hfail⟩

/-! The write phase -/

/-- A move that writes ends the write phase: the exchange fails or goes on to the settle phase (R166). -/
theorem Machine.Move.leaves_write_phase {e : Option Event} {s t : State} (m : Move e s t) (hw : t.written ≠ s.written) :
    t.state = .failed ∨ (t.state = .sent ∧ t.sentPh = .settle) := by
  cases m
  case wrote hs _ _ => exact .inr ⟨hs, rfl⟩
  case writeFailed => exact .inl rfl
  all_goals exact absurd (by simp) hw

/-- No move of an exchange in progress enters the write phase, and none that stays in it writes (R63, R173). -/
theorem Machine.Move.in_write_phase {e : Option Event} {s t : State} (m : Move e s t) (hb : busy s = true)
    (hs : t.state = .sent) (hp : t.sentPh = .write) : s.state = .sent ∧ s.sentPh = .write ∧ t.written = s.written := by
  cases m
  case accept hb' _ => rw [hb] at hb'; cases hb'
  case wrote => cases hp
  case reset => cases hs
  -- The other moves keep STATE and SENT_PH, or end in another STATE.
  case stay | hostRead | crcInit | crcByte | overrun | queue | chOpen | elapse => exact ⟨hs, hp, rfl⟩
  case hostWrite => exact ⟨by simpa using hs, by simpa using hp, by simp⟩
  all_goals simp at hs

/-- Settles O54, by the moves a step can make; the invariant says that TXBUF holds the request of the latches. -/
theorem oneWritePerExchange : Obligations.OneWritePerExchange := by
  intro s t hinv hstep
  have m : Move s.events.head? (popEvent s) t := step_move hstep
  refine ⟨?_, fun hb => m.in_write_phase hb⟩
  obtain hsame | ⟨hs, hp, ho, hw⟩ := step_written_cases hstep
  · exact .inl hsame
  · have hreq : HoldsRequest s := (hinv.running (busy_iff.mpr (.inl hs))).1
    exact .inr ⟨hs, hp, ho, hw, hreq, m.leaves_write_phase (by simp [hw])⟩

/-! The schedule of an exchange -/

/-- A run of at least one step that does not stop takes that step. -/
theorem exists_step_of_run_succ {s t : State} {n : Nat} (h : Host.Core.run core (n + 1) s = .next t) :
    ∃ u, step s = .next u ∧ Host.Core.run core n u = .next t := by
  cases hstep : step s with
  | next u => exact ⟨u, rfl, run_succ_next hstep ▸ h⟩
  | fault r => simp [Host.Core.run, show core.step s = .fault r from hstep] at h
  | refused r => simp [Host.Core.run, show core.step s = .refused r from hstep] at h

/-- A run of `n + m` steps is one of `n` and then one of `m`. -/
theorem run_add {n m : Nat} {s t : State} (h : Host.Core.run core n s = .next t) :
    Host.Core.run core (n + m) s = Host.Core.run core m t := by
  induction n generalizing s with
  | zero => cases h; rw [Nat.zero_add]
  | succ n ih =>
    obtain ⟨u, hstep, hrun⟩ := exists_step_of_run_succ h
    rw [Nat.succ_add, run_succ_next hstep, ih hrun]

/-- A run keeps the invariant. -/
theorem Inv.run {s t : State} {n : Nat} (h : Inv s) (hrun : Host.Core.run core n s = .next t) : Inv t := by
  induction n generalizing s with
  | zero => cases hrun; exact h
  | succ n ih =>
    obtain ⟨u, hstep, hrun⟩ := exists_step_of_run_succ hrun
    exact ih (stepKeepsTheInvariant s u h hstep) hrun

/-- The events of the schedule: the engine's turn, bytes that arrive, time. -/
def ScheduleEvent : Event → Prop
  | .engine _ | .arrive _ | .elapse _ => True
  | _ => False

/-- With DONE set the events of the schedule leave STATE as it is: the engine is quiescent (R220). -/
theorem step_of_done {s : State} {e : Event} {rest : List Event} (hd : done s = true) (he : ScheduleEvent e)
    (h : s.events = e :: rest) : ∃ t, step s = .next t ∧ done t = true ∧ t.events = rest := by
  rw [step_cons h]
  cases e with
  | engine a =>
    have hquiet : engineTurn a { s with events := rest } = .next { s with events := rest } := by
      obtain hs | hs := done_iff.mp hd <;> simp [engineTurn, hs]
    exact ⟨_, hquiet, hd, rfl⟩
  | arrive | elapse => exact ⟨_, rfl, hd, rfl⟩
  | host | reply | drain | channelOpen | reset => exact he.elim

/-- A run of such events leaves a DONE exchange DONE. -/
theorem run_of_done {s : State} {es rest : List Event} (hd : done s = true) (hes : ∀ e ∈ es, ScheduleEvent e)
    (h : s.events = es ++ rest) :
    ∃ t, Host.Core.run core es.length s = .next t ∧ done t = true ∧ t.events = rest := by
  induction es generalizing s with
  | nil => exact ⟨s, rfl, hd, h⟩
  | cons e es ih =>
    obtain ⟨u, hstep, hdu, heu⟩ := step_of_done hd (hes e List.mem_cons_self) h
    obtain ⟨t, hrun, ht⟩ := ih hdu (fun e' he' => hes e' (List.mem_cons_of_mem e he')) heu
    exact ⟨t, (run_succ_next hstep).trans hrun, ht⟩

/-- The write step ends the exchange or starts the settle delay (R165 to R167). -/
theorem step_write {s : State} {a : ChanAnswer} {rest : List Event} (hinv : Inv s) (hs : s.state = .sent)
    (hp : s.sentPh = .write) (h : s.events = .engine a :: rest) :
    ∃ t, step s = .next t ∧ t.events = rest ∧
      (done t = true ∨ (t.state = .sent ∧ t.sentPh = .settle ∧ t.settleT = s.lSettle ∧ t.lTimeout = s.lTimeout)) := by
  have hstep : step s = writeTurn a { s with events := rest } := by
    rw [step_cons h]
    simp [react, engineTurn, hs, hp]
  have hnext : ∃ t, writeTurn a { s with events := rest } = .next t := by
    unfold writeTurn
    rw [if_neg (Nat.not_lt.mpr hinv.txLenBound)]
    repeat' split
    all_goals exact ⟨_, rfl⟩
  obtain ⟨t, ht⟩ := hnext
  refine ⟨t, hstep.trans ht, ?_⟩
  obtain ⟨-, rfl⟩ | ⟨-, -, ⟨-, rfl⟩ | ⟨-, rfl⟩⟩ := writeTurn_cases ht
  · exact ⟨rfl, .inl rfl⟩
  · exact ⟨rfl, .inr ⟨hs, rfl, rfl, rfl⟩⟩
  · exact ⟨rfl, .inl rfl⟩

/-- The read step at TIMEOUT_T = 0 ends the exchange, whatever the channel answers (R169, R181). -/
theorem step_readTimesOut {s : State} {a : ChanAnswer} {rest : List Event} (hinv : Inv s) (hs : s.state = .awaiting)
    (ht : s.timeoutT = 0#32) (h : s.events = .engine a :: rest) :
    ∃ t, step s = .next t ∧ done t = true ∧ t.events = rest := by
  rw [step_readTurn hs h]
  by_cases herr : a = .err ∨ s.chOpen = false
  · exact ⟨_, if_pos herr, rfl, rfl⟩
  · obtain ⟨ha, ho⟩ := not_or.mp herr
    obtain ⟨t, htake, hend⟩ := (hinv.of_invView_eq rfl : Inv { s with events := rest }).takeReply_ends hs
    have hturn : readTurn a { s with events := rest } = takeReply { s with events := rest } :=
      readTurn_takes ha (by simpa using ho) (.inr ht)
    exact ⟨t, hturn.trans htake, hend.done, hend.events⟩

/-- Bytes that arrive wait behind those there and do nothing else (R49). -/
theorem step_arrive {s : State} {bytes : List Byte} {rest : List Event} (h : s.events = .arrive bytes :: rest) :
    step s = .next { s with inputQueue := s.inputQueue ++ bytes, events := rest } :=
  (repliesOutsideAReadWait.2 s rest).1 bytes h

/-- From the settle phase: the settle delay, the settle step, bytes and the timeout bring the read to TIMEOUT_T = 0 (R167, R168,
R181). -/
theorem run_settle_to_timeout {s : State} {a : ChanAnswer} {bytes : List Byte} {n m : Nat} {rest : List Event}
    (hs : s.state = .sent) (hp : s.sentPh = .settle) (hn : s.settleT.toNat ≤ n) (hm : s.lTimeout.toNat ≤ m)
    (h : s.events = .elapse n :: .engine a :: .arrive bytes :: .elapse m :: rest) :
    ∃ t, Host.Core.run core 4 s = .next t ∧ t.state = .awaiting ∧ t.timeoutT = 0#32 ∧ t.events = rest := by
  obtain ⟨u, helapse, hsu, hpu, h0, hlu, heu⟩ : ∃ u, step s = .next u ∧ u.state = .sent ∧ u.sentPh = .settle ∧
      u.settleT = 0#32 ∧ u.lTimeout = s.lTimeout ∧ u.events = .engine a :: .arrive bytes :: .elapse m :: rest :=
    ⟨_, step_elapse h, hs, hp, countDown_eq_zero_iff.mpr hn, rfl, rfl⟩
  rw [run_succ_next helapse, run_succ_next (step_issueRead hsu hpu h0 heu), run_succ_next (step_arrive rfl),
    run_succ_next (step_elapse rfl)]
  exact ⟨_, rfl, rfl, countDown_eq_zero_iff.mpr (hlu ▸ hm), rfl⟩

/-- Settles O56: the write step fails and the exchange stays DONE, or the schedule brings the read to its timeout, where it ends. -/
theorem everyExchangeEnds : Obligations.EveryExchangeEnds := by
  intro s w a1 a2 bytes n m rest hinv hs hp hn hm h
  suffices hrun : ∃ t, Host.Core.run core 6 s = .next t ∧ done t = true ∧ t.events = rest by
    obtain ⟨t, ht, hd, he⟩ := hrun
    exact ⟨t, ht, hinv.run ht, hd, he⟩
  obtain ⟨u, hwrite, heu, hdu | ⟨hsu, hpu, hsettle, htimeout⟩⟩ := step_write hinv hs hp h
  · rw [run_succ_next hwrite]
    exact run_of_done (es := [.elapse n, .engine a1, .arrive bytes, .elapse m, .engine a2]) hdu (by simp [ScheduleEvent]) heu
  · obtain ⟨v, hread, hsv, htv, hev⟩ := run_settle_to_timeout hsu hpu (hsettle ▸ hn) (htimeout ▸ hm) heu
    have hinvV : Inv v := (stepKeepsTheInvariant s u hinv hwrite).run hread
    obtain ⟨t, hend, ht⟩ := step_readTimesOut hinvV hsv htv hev
    rw [run_succ_next hwrite, run_add (n := 4) (m := 1) hread, run_succ_next hend]
    exact ⟨t, rfl, ht⟩

end Sys2Proof

/-! PROOFS. The encoding: a command code written to CTRL decodes to its command, the response decoder reads back what the encoder
builds, and a body that decodes is the body of its instruction's encoding. -/

namespace Sys2Proof

open Machine

/-! Writes to CTRL -/

/-- CMD is bits [7:0] of the value written (R70). -/
theorem low8_eq_extractLsb' (v : Word) : low8 v = v.extractLsb' 0 8 := BitVec.setWidth_eq_extractLsb' (by decide)

/-- A code decodes as reserved exactly when it is none of the six assigned ones (R71, R72). -/
theorem decodeCommand_eq_reservedCmd {code c : Byte} :
    decodeCommand code = .reservedCmd c ↔ c = code ∧ c ∉ assignedCodes := by
  obtain ⟨rfl, hd⟩ | ⟨rfl, hd⟩ | ⟨rfl, hd⟩ | ⟨rfl, hd⟩ | ⟨rfl, hd⟩ | ⟨rfl, hd⟩ | ⟨hc, hd⟩ := decodeCommand_cases code
  case inr.inr.inr.inr.inr.inr =>
    rw [hd, Instr.reservedCmd.injEq]
    exact ⟨fun h => ⟨h.symm, h ▸ hc⟩, fun h => h.1.symm⟩
  -- An assigned code decodes to its command, and is assigned.
  all_goals
    rw [hd]
    refine ⟨nofun, ?_⟩
    rintro ⟨rfl, hc⟩
    exact absurd (by decide) hc

/-- The four bytes of a command code's write decode as the code does (R70, R71). -/
theorem decode_ctrlBytes (code : Byte) : decode .ctrl (ctrlBytes code) = .ok (decodeCommand code) :=
  congrArg (fun c => Except.ok (decodeCommand c)) (low8_ctrlBytes code)

/-- Settles O4. -/
theorem ctrlDecodesByItsLowByte : Obligations.CtrlDecodesByItsLowByte := by
  refine ⟨fun v v' h => ?_, fun v c => ?_⟩
  · rw [← low8_eq_extractLsb', ← low8_eq_extractLsb'] at h
    exact congrArg decodeCommand h
  · rw [← low8_eq_extractLsb']
    exact decodeCommand_eq_reservedCmd

/-! The decoder on the four responses -/

/-- RXBUF holds the longest reply, one of MAX_READ_QTY values (R6). -/
theorem rxbufSize_eq : Config.rxbufSize = 255 := rfl

/-- A response body of a length RXBUF holds, with its CRC, decodes as the body does. -/
theorem decode_response_withCrc {m : List Byte} (h1 : 3 ≤ m.length) (h2 : m.length + 2 ≤ Config.rxbufSize) :
    decode .response (withCrc m) = decodeResponseBody m :=
  decodeFrame_withCrc h1 h2

/-- The normal reply to 0x03 reads back, whatever its byte count (R78, R138). -/
theorem decode_readReplyFrame {values : List HalfWord} (slave byteCount : Byte) (hq : readQtyOk values.length = true) :
    decode .response (readReplyFrame slave byteCount values) = .ok (.rtuRspReadHolding slave byteCount values) := by
  obtain ⟨-, hmax⟩ := readQtyOk_iff.mp hq
  rw [readReplyFrame, decode_response_withCrc (by simp) (by simp [rxbufSize_eq]; omega)]
  simp [decodeResponseBody, hq]

/-- The reply to 0x06 reads back (R79). -/
theorem decode_writeSingleReply (slave : Byte) (reg value : HalfWord) :
    decode .response (writeSingleFrame slave reg value) = .ok (.rtuRspWriteSingle slave reg value) := by
  rw [writeSingleFrame, decode_response_withCrc (by simp) (by simp [rxbufSize_eq])]
  simp [decodeResponseBody]

/-- The reply to 0x10 reads back (R80). -/
theorem decode_writeMultipleReplyFrame (slave : Byte) (start qty : HalfWord) :
    decode .response (writeMultipleReplyFrame slave start qty) = .ok (.rtuRspWriteMultiple slave start qty) := by
  rw [writeMultipleReplyFrame, decode_response_withCrc (by simp) (by simp [rxbufSize_eq])]
  simp [decodeResponseBody]

/-- An exception reply that fits RXBUF reads back with its padding (R81). -/
theorem decode_exceptionFrame {fc : Byte} {rest : List Byte} (slave code : Byte) (hfc : fc.getLsbD 7 = true)
    (hl : 5 + rest.length ≤ Config.rxbufSize) :
    decode .response (exceptionFrame slave fc code rest) = .ok (.rtuRspException slave fc code rest) := by
  rw [exceptionFrame, decode_response_withCrc (by simp) (by simp; omega)]
  simp [decodeResponseBody, hfc]

/-- Settles O1: one read-back lemma for each format and frame. -/
theorem decodeEncodeRoundTrip : Obligations.DecodeEncodeRoundTrip := by
  intro i hwf hne
  cases i with
  | readRegister => exact absurd rfl hne
  | readRegisters | writeRegister | writeRegisters | crcInit | crcByte | clear => exact decode_ctrlBytes _
  | reservedCmd code =>
    have hc : code ∉ assignedCodes := by simpa [wellFormed] using hwf
    exact (decode_ctrlBytes code).trans (congrArg Except.ok (decodeCommand_eq_reservedCmd.mpr ⟨rfl, hc⟩))
  | rtuReqReadHolding slave start qty =>
    obtain ⟨hs, hq⟩ := Bool.and_eq_true_iff.mp hwf
    exact decode_readRequestFrame start hs hq
  | rtuReqWriteSingle slave reg value => exact decode_writeSingleFrame reg value hwf
  | rtuReqWriteMultiple slave start values =>
    obtain ⟨hs, hq⟩ := Bool.and_eq_true_iff.mp hwf
    exact decode_writeMultipleFrame start hs hq
  | rtuRspReadHolding slave byteCount values => exact decode_readReplyFrame slave byteCount hwf
  | rtuRspWriteSingle slave reg value => exact decode_writeSingleReply slave reg value
  | rtuRspWriteMultiple slave start qty => exact decode_writeMultipleReplyFrame slave start qty
  | rtuRspException slave fc code rest =>
    obtain ⟨hfc, hl⟩ := Bool.and_eq_true_iff.mp hwf
    exact decode_exceptionFrame slave code hfc (of_decide_eq_true hl)

/-! A body that decodes -/

/-- `m` is the body of the encoding of `i`, a well-formed instruction of format `f` (R74). -/
structure IsBodyOf (f : Format) (m : List Byte) (i : Instr) : Prop where
  format : formatOf i = f
  wellFormed : wellFormed i = true
  encode : encode i = withCrc m

/-- A request body that decodes is that of the request it decodes to (R75 to R77). -/
theorem decodeRequestBody_ok {m : List Byte} {i : Instr} : decodeRequestBody m = .ok i → IsBodyOf .request m i := by
  fun_cases decodeRequestBody m
  -- 0x03
  case case4 slave r1 r0 q1 q0 rest hs hl hq =>
    rintro ⟨⟩
    have hs : slaveOk slave = true := by simpa using hs
    have hrest : rest = [] := by simpa using hl
    exact ⟨rfl, by simpa [Sys2Proof.wellFormed, hs] using hq, by simp [Sys2Proof.encode, readRequestFrame, hrest]⟩
  -- 0x06
  case case6 slave r1 r0 q1 q0 rest hs hl _ =>
    rintro ⟨⟩
    have hs : slaveOk slave = true := by simpa using hs
    have hrest : rest = [] := by simpa using hl
    exact ⟨rfl, hs, by simp [Sys2Proof.encode, writeSingleFrame, hrest]⟩
  -- 0x10: the quantity and the byte count are the ones the encoder computes from the values.
  case case10 slave r1 r0 q1 q0 hs count payload values hv hq _ _ =>
    rintro ⟨⟩
    simp only [Bool.or_eq_true, Bool.not_eq_true', decide_eq_true_eq, not_or, Bool.not_eq_false, ne_eq, not_not] at hs hq
    obtain ⟨⟨hq, hqty⟩, hcount⟩ := hq
    have hqty : BitVec.ofNat 16 values.length = be16 q1 q0 := by simp [← hqty]
    have hcount : BitVec.ofNat 8 (2 * values.length) = count := by simp [← hcount]
    exact ⟨rfl, by simp [Sys2Proof.wellFormed, hs, hq],
      by simp [Sys2Proof.encode, writeMultipleFrame, hqty, hcount, bigEndian_of_fromBigEndian hv]⟩
  all_goals nofun

/-- A response body that decodes is that of the response it decodes to, if RXBUF holds it (R78 to R81, R44). -/
theorem decodeResponseBody_ok {m : List Byte} {i : Instr} (hl : m.length + 2 ≤ Config.rxbufSize) :
    decodeResponseBody m = .ok i → IsBodyOf .response m i := by
  fun_cases decodeResponseBody m
  -- Exception
  case case2 slave fc hfc code pad =>
    rintro ⟨⟩
    have hpad : 5 + pad.length ≤ Config.rxbufSize := by simp at hl; omega
    exact ⟨rfl, by simp [Sys2Proof.wellFormed, hfc, hpad], rfl⟩
  -- 0x03
  case case5 slave count payload values hv hq _ =>
    rintro ⟨⟩
    exact ⟨rfl, hq, by simp [Sys2Proof.encode, readReplyFrame, bigEndian_of_fromBigEndian hv]⟩
  -- 0x06
  case case7 =>
    rintro ⟨⟩
    exact ⟨rfl, rfl, by simp [Sys2Proof.encode, writeSingleFrame]⟩
  -- 0x10
  case case9 =>
    rintro ⟨⟩
    exact ⟨rfl, rfl, by simp [Sys2Proof.encode, writeMultipleReplyFrame]⟩
  all_goals nofun

/-- Settles O2: a frame that decodes is its body with the body's CRC, and the body is that of what it decodes to. -/
theorem decodedFramesAreTheirEncoding : Obligations.DecodedFramesAreTheirEncoding := by
  intro f bs i hf h
  suffices hbody : IsBodyOf f (bs.take (bs.length - 2)) i ∧ bs = withCrc (bs.take (bs.length - 2)) from
    ⟨hbody.1.format, hbody.1.wellFormed, hbody.1.encode.trans hbody.2.symm⟩
  cases f with
  | ctrl => exact absurd rfl hf
  | request =>
    obtain ⟨-, -, hcrc, hbody⟩ := decodeFrame_ok h
    exact ⟨decodeRequestBody_ok hbody, hcrc⟩
  | response =>
    obtain ⟨hmin, hmax, hcrc, hbody⟩ := decodeFrame_ok h
    exact ⟨decodeResponseBody_ok (by simp; omega) hbody, hcrc⟩

/-- Settles O3, by running the decoder on each word. -/
theorem wordsOfTheSpecDecode : Obligations.WordsOfTheSpecDecode := by
  unfold Obligations.WordsOfTheSpecDecode
  decide +kernel

end Sys2Proof

/-! PROOFS. The requests built: what the encoder records in TXBUF, for a request row with its own operands and for an exchange
command with the parameter registers it latches. -/

namespace Sys2Proof

open Machine

/-! The encoder's frame, recorded -/

/-- Valid parameters are those the encoder's checks accept (R111 to R113). -/
theorem ValidParameters.slaveOk {fc slave : Byte} {qty : HalfWord} (h : ValidParameters fc slave qty) :
    Machine.slaveOk slave = true :=
  slaveOk_iff.mpr h.1

theorem ValidParameters.readQtyOk {slave : Byte} {qty : HalfWord} (h : ValidParameters 0x03#8 slave qty) :
    Machine.readQtyOk qty.toNat = true :=
  readQtyOk_iff.mpr (h.2.1 rfl)

theorem ValidParameters.writeQtyOk {slave : Byte} {qty : HalfWord} (h : ValidParameters 0x10#8 slave qty) :
    Machine.writeQtyOk qty.toNat = true :=
  writeQtyOk_iff.mpr (h.2.2 rfl)

theorem Recorded.txLen {f : List Byte} {n : Nat} {s t : State} (h : Recorded f n s t) : t.txLen.toNat = f.length := h.1

theorem Recorded.expLen {f : List Byte} {n : Nat} {s t : State} (h : Recorded f n s t) : t.expLen.toNat = n := h.2.1

/-- A frame TXBUF holds reads back once it is recorded; TXBUF past it is as before (R43, R110). -/
theorem recorded_recordRequest {s : State} (hwf : Memory.wf Config.txbufSize s.txbuf = true) {f : List Byte}
    (hl : f.length ≤ 255) (e : HalfWord) : Recorded f e.toNat s (recordRequest f e s) := by
  have hfit : 0 + f.length ≤ Config.txbufSize := by rw [txbufSize_eq]; omega
  have hlen : (recordRequest f e s).txLen.toNat = f.length := Nat.mod_eq_of_lt (by omega)
  refine ⟨hlen, rfl, ?_, fun j hj => ?_⟩
  · rw [txFrame, hlen, recordRequest_txbuf, memRead_memWrite hwf hfit]
  · rw [recordRequest_txbuf, readCell_memWrite hwf hfit, if_neg (by omega)]

/-- The values on the wire, each high byte first (R77). -/
theorem bigEndian_eq_flatMap (vs : List HalfWord) : bigEndian vs = vs.flatMap fun v => [hi8 v, lo8 v] := by
  induction vs with
  | nil => rfl
  | cons v vs ih => simp [bigEndian, ih]

/-- A list is its entries in order. -/
theorem map_getD_range (vs : List HalfWord) : (List.range vs.length).map (fun i => vs.getD i 0#16) = vs :=
  List.ext_getElem (by simp) fun i _ hi => by simp [hi]

/-! The request rows -/

/-- Settles O17: the encoder accepts the operands, and what it returns is recorded. -/
theorem readRequestIsBuilt : Obligations.ReadRequestIsBuilt := by
  intro slave start qty s hv hwf
  have hbuild : buildRead slave start qty = some (readRequestFrame slave start qty, 5#16 + 2#16 * qty) :=
    buildRead_eq_some.mpr ⟨hv.slaveOk, hv.readQtyOk, rfl⟩
  have hrec := recorded_recordRequest hwf (f := readRequestFrame slave start qty) (by simp) (5#16 + 2#16 * qty)
  rw [readLength_toNat hv.readQtyOk] at hrec
  exact ⟨_, congrArg (fun r => Host.Outcome.next (recordOrReject r s)) hbuild, hrec, rfl⟩

/-- Settles O18. -/
theorem writeSingleRequestIsBuilt : Obligations.WriteSingleRequestIsBuilt := by
  intro slave reg value s h1 h2 hwf
  have hbuild : buildWriteSingle slave reg value = some (writeSingleFrame slave reg value, 8#16) :=
    buildWriteSingle_eq_some.mpr ⟨slaveOk_iff.mpr ⟨h1, h2⟩, rfl⟩
  exact ⟨_, congrArg (fun r => Host.Outcome.next (recordOrReject r s)) hbuild,
    recorded_recordRequest hwf (f := writeSingleFrame slave reg value) (by simp) 8#16, rfl⟩

/-- Settles O19. -/
theorem writeMultipleRequestIsBuilt : Obligations.WriteMultipleRequestIsBuilt := by
  intro slave start values s h1 h2 hq1 hq2 hwf
  have hbuild : buildWriteMultiple slave start values.length (fun i => values.getD i 0#16) =
      some (writeMultipleFrame slave start values, 8#16) :=
    buildWriteMultiple_eq_some.mpr ⟨slaveOk_iff.mpr ⟨h1, h2⟩, writeQtyOk_iff.mpr ⟨hq1, hq2⟩, by rw [map_getD_range]⟩
  have hrec := recorded_recordRequest hwf (f := writeMultipleFrame slave start values) (by simp; omega) 8#16
  refine ⟨_, congrArg (fun r => Host.Outcome.next (recordOrReject r s)) hbuild, ?_, ?_, rfl⟩
  · rw [← bigEndian_eq_flatMap]
    exact hrec
  · exact hrec.txLen.trans (writeMultipleFrame_length slave start values)

/-! The exchange commands -/

/-- An exchange command with BUSY = 0 whose parameters the encoder accepts: the request recorded, STATE = SENT (R161, R162). -/
theorem exchangeCommand_accepts {s : State} {fc : Byte} {f : List Byte} {e : HalfWord} (hb : busy s = false)
    (h : encodeLatched (latched fc s) = some (f, e)) :
    exchangeCommand fc s = startExchange (recordRequest f e (latched fc s)) := by
  rw [exchangeCommand, if_neg (by simp [hb]), acceptExchange, h]

/-- The request of READ_REGISTERS (R174). -/
theorem encodeLatched_read {s : State} (hv : ValidParameters 0x03#8 s.pSlave s.pQty) :
    encodeLatched (latched 0x03#8 s) = some (readRequestFrame s.pSlave s.pReg s.pQty, 5#16 + 2#16 * s.pQty) :=
  buildRead_eq_some.mpr ⟨hv.slaveOk, hv.readQtyOk, rfl⟩

/-- The request of WRITE_REGISTER (R176). -/
theorem encodeLatched_writeSingle {s : State} (hs : slaveOk s.pSlave = true) :
    encodeLatched (latched 0x06#8 s) = some (writeSingleFrame s.pSlave s.pReg s.pValue, 8#16) :=
  buildWriteSingle_eq_some.mpr ⟨hs, rfl⟩

/-- L_WDATA after a WRITE_REGISTERS of `Q` values: entries 0 to Q-1 are those of WDATA, the others as before (R73, R162). -/
theorem readCell_lWdata_latch {s : State} (hq : writeQtyOk s.pQty.toNat = true)
    (hwf : Memory.wf Config.maxWriteQty s.lWdata = true) (i : Nat) :
    readCell (latch 0x10#8 s).lWdata i = if i < s.pQty.toNat then readCell s.wdata i else readCell s.lWdata i := by
  have hmax : s.pQty.toNat ≤ Config.maxWriteQty := (writeQtyOk_iff.mp hq).2
  rw [latch_lWdata, if_pos ⟨rfl, hq⟩, readCell_memWrite hwf (by simpa using hmax)]
  simp only [memRead_length, Nat.zero_le, true_and, Nat.zero_add, Nat.sub_zero]
  split
  case isTrue hi => simp [hi, memRead_getElem]
  case isFalse => rfl

/-- The request of WRITE_REGISTERS (R177). -/
theorem encodeLatched_writeMultiple {s : State} (hv : ValidParameters 0x10#8 s.pSlave s.pQty)
    (hwf : Memory.wf Config.maxWriteQty s.lWdata = true) :
    encodeLatched (latched 0x10#8 s) =
      some (writeMultipleFrame s.pSlave s.pReg ((List.range s.pQty.toNat).map (readCell s.wdata)), 8#16) := by
  refine buildWriteMultiple_eq_some.mpr ⟨hv.slaveOk, hv.writeQtyOk, ?_⟩
  have hvalues : (List.range s.pQty.toNat).map (readCell (latch 0x10#8 s).lWdata) =
      (List.range s.pQty.toNat).map (readCell s.wdata) :=
    List.map_congr_left fun i hi => by rw [readCell_lWdata_latch hv.writeQtyOk hwf, if_pos (List.mem_range.mp hi)]
  rw [← hvalues]
  rfl

/-- A request started is recorded over the state the command found: latching and clearing leave TXBUF alone (R162, R163). -/
theorem recorded_startExchange {s : State} (hwf : Memory.wf Config.txbufSize s.txbuf = true) (fc : Byte) {f : List Byte}
    (hl : f.length ≤ 255) (e : HalfWord) : Recorded f e.toNat s (startExchange (recordRequest f e (latched fc s))) :=
  recorded_recordRequest (s := latched fc s) hwf hl e

/-- Settles O21. -/
theorem readRegistersIsAccepted : Obligations.ReadRegistersIsAccepted := by
  intro s hb hv hwf
  have hrec := recorded_startExchange hwf 0x03#8 (f := readRequestFrame s.pSlave s.pReg s.pQty) (by simp) (5#16 + 2#16 * s.pQty)
  rw [readLength_toNat hv.readQtyOk] at hrec
  exact ⟨_, congrArg Host.Outcome.next (exchangeCommand_accepts hb (encodeLatched_read hv)), hrec, rfl⟩

/-- READ_REGISTER is P_QTY ← 1, then READ_REGISTERS (R175). -/
theorem exec_readRegister (s : State) : exec .readRegister s = exec .readRegisters { s with pQty := 1#16 } := rfl

/-- Settles O22: the writes of the expansion are a register write and a command; READ_REGISTERS then runs with Q = 1. -/
theorem readRegisterIsAccepted : Obligations.ReadRegisterIsAccepted := by
  refine ⟨fun s rest h => ?_, fun s hb h1 h2 hwf => ?_⟩
  · have hdecode : decodeCtrl 0x03#32 = .readRegisters := by decide
    have hstore : step s = .next { s with pQty := 1#16, events := .host (.write 0#10 0x03#32) :: rest } :=
      step_hostWrite (by decide) h
    have hcommand := step_ctrlWrite (s := { s with pQty := 1#16, events := .host (.write 0#10 0x03#32) :: rest }) rfl
    rw [hdecode] at hcommand
    rw [run_succ_next hstore, run_succ_next hcommand, exec_readRegister]
    rfl
  · have hv : ValidParameters 0x03#8 s.pSlave 1#16 := ⟨⟨h1, h2⟩, fun _ => by decide, nofun⟩
    have hhi : hi8 1#16 = 0x00#8 := by decide
    have hlo : lo8 1#16 = 0x01#8 := by decide
    obtain ⟨t, ht, hrec, hstate⟩ := readRegistersIsAccepted { s with pQty := 1#16 } hb hv hwf
    rw [hhi, hlo] at hrec
    have hexp : t.expLen = 7#16 := BitVec.eq_of_toNat_eq hrec.expLen
    rw [hexp] at hstate
    exact ⟨t, (exec_readRegister s).trans ht, hrec, hstate⟩

/-- Settles O23. -/
theorem writeRegisterIsAccepted : Obligations.WriteRegisterIsAccepted := by
  intro s hb h1 h2 hwf
  have hs : slaveOk s.pSlave = true := slaveOk_iff.mpr ⟨h1, h2⟩
  exact ⟨_, congrArg Host.Outcome.next (exchangeCommand_accepts hb (encodeLatched_writeSingle hs)),
    recorded_startExchange hwf 0x06#8 (f := writeSingleFrame s.pSlave s.pReg s.pValue) (by simp) 8#16, rfl⟩

/-- Settles O24: the values sent are the L_WDATA entries just latched, so those of WDATA. -/
theorem writeRegistersIsAccepted : Obligations.WriteRegistersIsAccepted := by
  intro s hb hv hwf hlwf
  have hq := hv.writeQtyOk
  have hmax := (writeQtyOk_iff.mp hq).2
  have hrec := recorded_startExchange hwf 0x10#8
    (f := writeMultipleFrame s.pSlave s.pReg ((List.range s.pQty.toNat).map (readCell s.wdata))) (by simp; omega) 8#16
  refine ⟨_, congrArg Host.Outcome.next (exchangeCommand_accepts hb (encodeLatched_writeMultiple hv hlwf)), ?_, ?_,
    readCell_lWdata_latch hq hlwf, rfl⟩
  · simpa [writeMultipleFrame, bigEndian_eq_flatMap, withCrc] using hrec
  · exact hrec.txLen.trans (by simp)

end Sys2Proof

/-! PROOFS. The CRC generator: the two host commands as steps, a stream of bytes fed to CRC_ACC, and the residue of a frame that
carries its own CRC. -/

namespace Sys2Proof

open Machine

/-! The CRC commands -/

/-- CRC_INIT looks at no field of the state, BUSY included (R105). -/
theorem exec_crcInit (s : State) : exec .crcInit s = .next { s with crcAcc := Config.crcInit } := rfl

/-- CRC_BYTE reads CRC_ACC and CRC_IN alone (R106). -/
theorem exec_crcByte (s : State) : exec .crcByte s = .next { s with crcAcc := crcByte s.crcAcc s.crcIn } := rfl

/-- `crcBits` is the repetition of R101. -/
theorem crcBits_eq_iterate (n : Nat) (a : HalfWord) : crcBits n a = crcBit^[n] a := by
  induction n generalizing a with
  | zero => rfl
  | succ n ih => rw [crcBits, ih, Function.iterate_succ_apply]

/-- Settles O9. -/
theorem crcInitSetsTheAccumulator : Obligations.CrcInitSetsTheAccumulator :=
  ⟨by decide, exec_crcInit⟩

/-- Settles O10: the bit step written out in the statement is `crcBit`. -/
theorem crcByteIsEightBitSteps : Obligations.CrcByteIsEightBitSteps := by
  refine ⟨by decide, fun s => ?_⟩
  rw [exec_crcByte, crcByte, crcBits_eq_iterate]
  rfl

/-! A stream of bytes -/

/-- A byte written to CRC_IN is stored whole (R28). -/
theorem step_writeCrcIn {s : State} {b : Byte} {rest : List Event}
    (h : s.events = .host (.write 0x005#10 (b.setWidth 32)) :: rest) :
    step s = .next { s with crcIn := b, events := rest } := by
  obtain ⟨-, -, -, -, hreg, -⟩ := hostReg_numbered
  have hbyte : low8 (b.setWidth 32) = b := BitVec.setWidth_setWidth_of_le b (by decide)
  rw [step_hostWrite (by decide) h, hreg, writeReg, hbyte]

/-- Writing 0x21 to CTRL feeds CRC_IN to CRC_ACC (R106). -/
theorem step_crcByteCommand {s : State} {rest : List Event} (h : s.events = .host (.write 0x000#10 0x21#32) :: rest) :
    step s = .next { s with crcAcc := crcByte s.crcAcc s.crcIn, events := rest } := by
  have hdecode : decodeCtrl 0x21#32 = .crcByte := by decide
  rw [step_ctrlWrite h, hdecode, exec_crcByte]

/-- A stream goes on from the accumulator it finds (R241) and leaves its last byte in CRC_IN. -/
theorem run_crcByteStream (bs : List Byte) (s : State) (rest : List Event)
    (h : s.events = (bs.flatMap fun b => [.host (.write 0x005#10 (b.setWidth 32)), .host (.write 0x000#10 0x21#32)]) ++ rest) :
    Host.Core.run core (2 * bs.length) s =
      .next { s with crcIn := bs.getLastD s.crcIn, crcAcc := crcFold s.crcAcc bs, events := rest } := by
  induction bs generalizing s with
  | nil =>
    have hevents : s.events = rest := h
    subst hevents
    rfl
  | cons b bs ih =>
    rw [List.length_cons, Nat.mul_succ, run_succ_next (step_writeCrcIn h), run_succ_next (step_crcByteCommand rfl),
      ih _ rfl, List.getLastD_cons, crcFold_cons]

/-- Settles O11: `crc16` is the stream's fold from 0xFFFF (R102). -/
theorem crcByteStreamComputesCrc16 : Obligations.CrcByteStreamComputesCrc16 := by
  intro bs s rest hacc h
  have hrun := run_crcByteStream bs s rest h
  rw [hacc] at hrun
  exact ⟨_, hrun⟩

/-! The residue -/

/-- Bits that are 0 are shifted out with no XOR, so the polynomial takes no part (R100). -/
theorem crcBits_of_low_zero {n : Nat} {a : HalfWord} (h : ∀ i < n, a.getLsbD i = false) : crcBits n a = a >>> n := by
  induction n generalizing a with
  | zero => simp [crcBits]
  | succ n ih =>
    have hbit : crcBit a = a >>> 1 := if_neg (by rw [h 0 (by omega)]; decide)
    have hlow : ∀ i < n, (a >>> 1).getLsbD i = false := fun i hi => by simpa using h (1 + i) (by omega)
    rw [crcBits, hbit, ih hlow, ← BitVec.shiftRight_add, Nat.add_comm]

/-- Fed its own low byte, the accumulator shifts it out and keeps its high byte. -/
theorem crcByte_lo8 (a : HalfWord) : crcByte a (lo8 a) = (hi8 a).setWidth 16 := by
  have hlow : ∀ i < 8, (a ^^^ (lo8 a).setWidth 16).getLsbD i = false := fun i hi => by
    simp [lo8, hi, show i < 16 by omega]
  rw [crcByte, crcBits_of_low_zero hlow]
  apply BitVec.eq_of_getLsbD_eq
  intro i hi
  by_cases h8 : i < 8
  · simp [hi8, lo8, hi, h8]
  · simp [hi8, lo8, h8, BitVec.getLsbD_of_ge a (8 + i) (by omega)]

/-- Fed the one byte it holds, the accumulator comes to 0. -/
theorem crcByte_setWidth_self (b : Byte) : crcByte (b.setWidth 16) b = 0#16 := by
  rw [crcByte, BitVec.xor_self, crcBits_of_low_zero (by simp)]
  simp

/-- A body with its CRC has residue 0: the two CRC bytes are the accumulator's own (R107). -/
theorem crc16_withCrc (m : List Byte) : crc16 (withCrc m) = 0#16 := by
  calc crc16 (withCrc m)
      = crcByte (crcByte (crc16 m) (lo8 (crc16 m))) (hi8 (crc16 m)) := crcFold_append _ _ _
    _ = crcByte ((hi8 (crc16 m)).setWidth 16) (hi8 (crc16 m)) := by rw [crcByte_lo8]
    _ = 0#16 := crcByte_setWidth_self _

/-- Settles O12: a frame that passes the check is a body with its CRC. -/
theorem crcResidueIsZero : Obligations.CrcResidueIsZero := by
  refine ⟨crc16_withCrc, fun f hl hok => ?_⟩
  rw [eq_withCrc_of_crcOk hl hok]
  exact crc16_withCrc _

end Sys2Proof

/-! PROOFS. The encoder: which parameters it rejects, what an INVALID request row leaves behind, the expected length of a reply, and
the CRC every frame it returns carries. -/

namespace Sys2Proof

open Machine

/-! INVALID -/

theorem buildRead_eq_none {slave : Byte} {start qty : HalfWord} :
    buildRead slave start qty = none ↔ ¬ ((1 ≤ slave.toNat ∧ slave.toNat ≤ 247) ∧ 1 ≤ qty.toNat ∧ qty.toNat ≤ 125) := by
  rw [← slaveOk_iff, ← readQtyOk_iff, buildRead, ← Bool.and_eq_true]
  simp only [ite_eq_right_iff, reduceCtorEq, imp_false]

theorem buildWriteSingle_eq_none {slave : Byte} {reg value : HalfWord} :
    buildWriteSingle slave reg value = none ↔ ¬ (1 ≤ slave.toNat ∧ slave.toNat ≤ 247) := by
  rw [← slaveOk_iff, buildWriteSingle]
  simp only [ite_eq_right_iff, reduceCtorEq, imp_false]

theorem buildWriteMultiple_eq_none {slave : Byte} {start : HalfWord} {q : Nat} {value : Nat → HalfWord} :
    buildWriteMultiple slave start q value = none ↔ ¬ ((1 ≤ slave.toNat ∧ slave.toNat ≤ 247) ∧ 1 ≤ q ∧ q ≤ 123) := by
  rw [← slaveOk_iff, ← writeQtyOk_iff, buildWriteMultiple, ← Bool.and_eq_true]
  simp only [ite_eq_right_iff, reduceCtorEq, imp_false]

/-- The parameters of a 0x03 request are its slave and its quantity (R111, R112). -/
theorem validParameters_read_iff {slave : Byte} {qty : HalfWord} :
    ValidParameters 0x03#8 slave qty ↔ (1 ≤ slave.toNat ∧ slave.toNat ≤ 247) ∧ 1 ≤ qty.toNat ∧ qty.toNat ≤ 125 := by
  simp [ValidParameters]

/-- The parameter of a 0x06 request is its slave (R111). -/
theorem validParameters_writeSingle_iff {slave : Byte} {qty : HalfWord} :
    ValidParameters 0x06#8 slave qty ↔ 1 ≤ slave.toNat ∧ slave.toNat ≤ 247 := by
  simp [ValidParameters]

/-- The parameters of a 0x10 request are its slave and its quantity (R111, R113). -/
theorem validParameters_writeMultiple_iff {slave : Byte} {qty : HalfWord} :
    ValidParameters 0x10#8 slave qty ↔ (1 ≤ slave.toNat ∧ slave.toNat ≤ 247) ∧ 1 ≤ qty.toNat ∧ qty.toNat ≤ 123 := by
  simp [ValidParameters]

/-- For a function code the engine sends, the encoder's INVALID is a parameter out of its range (R111 to R113). -/
theorem encodeRequest_eq_none {fc slave : Byte} {reg qty value : HalfWord} {wd : Memory 16}
    (hfc : fc = 0x03#8 ∨ fc = 0x06#8 ∨ fc = 0x10#8) :
    encodeRequest fc slave reg qty value wd = none ↔ ¬ ValidParameters fc slave qty := by
  obtain rfl | rfl | rfl := hfc
  · rw [validParameters_read_iff]
    exact buildRead_eq_none
  · rw [validParameters_writeSingle_iff]
    exact buildWriteSingle_eq_none
  · rw [validParameters_writeMultiple_iff]
    exact buildWriteMultiple_eq_none

/-- Settles O14: the statement lists how `ValidParameters` can fail. -/
theorem encoderRejectsExactlyInvalidParameters : Obligations.EncoderRejectsExactlyInvalidParameters := by
  intro fc slave reg qty value wd hfc
  rw [encodeRequest_eq_none hfc, ValidParameters]
  simp only [not_and_or, Classical.not_imp, not_le]

/-- Settles O20: each request row records what its builder returns, and a builder's INVALID is recorded as R164 says. -/
theorem invalidRequestsTouchNothingElse : Obligations.InvalidRequestsTouchNothingElse := by
  intro s rejected
  have hreject : ∀ {r : Option (List Byte × HalfWord)}, r = none →
      (Host.Outcome.next (recordOrReject r s) : Result) = .next rejected := by
    rintro _ rfl
    rfl
  exact ⟨fun _ _ _ hv => hreject (buildRead_eq_none.mpr (validParameters_read_iff.not.mp hv)),
    fun _ _ _ hv => hreject (buildWriteSingle_eq_none.mpr hv),
    fun _ _ _ hv => hreject (buildWriteMultiple_eq_none.mpr hv)⟩

/-! A request built -/

/-- Settles O15. -/
theorem expectedLengthByFunctionCode : Obligations.ExpectedLengthByFunctionCode := by
  intro fc slave reg qty value wd f e h
  obtain ⟨-, -, hmin, hmax⟩ := encodeRequest_bounds h
  obtain ⟨-, ⟨rfl, hq, -, rfl⟩ | ⟨rfl, -, rfl⟩ | ⟨rfl, -, -, rfl⟩⟩ := encodeRequest_cases h
  · exact ⟨fun _ => readLength_toNat hq, nofun, nofun, hmin, hmax⟩
  · exact ⟨nofun, fun _ => rfl, nofun, hmin, hmax⟩
  · exact ⟨nofun, nofun, fun _ => rfl, hmin, hmax⟩

/-- Every frame the encoder returns is a body with its CRC (R103). -/
theorem encodeRequest_withCrc {fc slave : Byte} {reg qty value : HalfWord} {wd : Memory 16} {f : List Byte} {e : HalfWord}
    (h : encodeRequest fc slave reg qty value wd = some (f, e)) : ∃ m, f = withCrc m := by
  obtain ⟨-, ⟨-, -, rfl, -⟩ | ⟨-, rfl, -⟩ | ⟨-, -, rfl, -⟩⟩ := encodeRequest_cases h
  · exact ⟨_, rfl⟩
  · exact ⟨_, rfl⟩
  · exact ⟨_, rfl⟩

/-- Settles O16: the last two bytes are the CRC's own, and a copy of the frame passes the check. -/
theorem encodedFramesCarryTheirCrc : Obligations.EncodedFramesCarryTheirCrc := by
  intro fc slave reg qty value wd f e h
  obtain ⟨m, rfl⟩ := encodeRequest_withCrc h
  have hbody : (withCrc m).take ((withCrc m).length - 2) = m := by simp
  rw [hbody]
  exact ⟨⟨lo8 (crc16 m), hi8 (crc16 m), rfl, (le16_lo8_hi8 _).symm⟩, crcOk_withCrc m⟩

end Sys2Proof

/-! PROOFS. The validator: the verdict of each of its steps (R131), said once, and what it says of the replies the frames of
R78 to R81 are. -/

namespace Sys2Proof

open Machine

/-! The steps in their order -/

section Steps

variable {req f : List Byte} {exp : Nat}

/-- Above the expected length the validator refuses (R142). -/
theorem validate_too_long (h : exp < f.length) : validate req exp f = none := if_pos h

/-- Step 1 (R132). -/
theorem validate_short (h : f.length < exp) : validate req exp f = some (.fail .incompleteResponse (.count f.length)) := by
  rw [validate, if_neg (by omega), if_pos h]

/-- Step 2 (R133). -/
theorem validate_bad_crc (hl : f.length = exp) (hc : crcOk f = false) :
    validate req exp f = some (.fail .checksumMismatch .none) := by
  rw [validate, if_neg (by omega), if_neg (by omega), if_pos (by simp [hc])]

/-- Step 3 (R134). -/
theorem validate_exception (hl : f.length = exp) (hc : crcOk f = true) (he : (byteAt f 1).getLsbD 7 = true) :
    validate req exp f = some (.fail .exceptionResponse (.code (byteAt f 2))) := by
  rw [validate, if_neg (by omega), if_neg (by omega), if_neg (by simp [hc]), exceptionFlag, if_pos he, judgeException]

/-- Step 4 for the two writes: bytes 0 to 5 are echoed (R135, R136). -/
theorem validate_write (hl : f.length = exp) (hc : crcOk f = true) (he : (byteAt f 1).getLsbD 7 = false)
    (hfc : byteAt req 1 = 0x06#8 ∨ byteAt req 1 = 0x10#8) :
    validate req exp f = some (if f.take 6 = req.take 6 then .ok [] else .fail .echoMismatch .none) := by
  rw [validate, if_neg (by omega), if_neg (by omega), if_neg (by simp [hc]), exceptionFlag, if_neg (he ▸ Bool.false_ne_true)]
  obtain hfc | hfc := hfc
  · simp [hfc, judgeWriteSingle, echoMatches]
  · simp [hfc, judgeWriteMultiple, echoMatches]

/-- Steps 4 and 5 for a read (R137, R139). -/
theorem validate_read (hl : f.length = exp) (hc : crcOk f = true) (he : (byteAt f 1).getLsbD 7 = false)
    (hfc : byteAt req 1 = 0x03#8) : validate req exp f = some (judgeRead req f) := by
  rw [validate, if_neg (by omega), if_neg (by omega), if_neg (by simp [hc]), exceptionFlag, if_neg (he ▸ Bool.false_ne_true)]
  simp [hfc]

end Steps

/-- Settles O35, one step of the validator after the other. -/
theorem validatorChecksInOrder : Obligations.ValidatorChecksInOrder := fun _ _ _ =>
  ⟨validate_too_long, validate_short, validate_bad_crc, validate_exception, validate_write, fun hl hc he hfc hhead =>
    (validate_read hl hc he hfc).trans (congrArg some (if_pos hhead))⟩

/-! Replies to a read -/

/-- Byte `3 + k` of a read reply is byte `k` of its values (R78). -/
theorem byteAt_readReplyFrame {values : List HalfWord} {k : Nat} (slave count : Byte) (hk : k < 2 * values.length) :
    byteAt (readReplyFrame slave count values) (3 + k) = byteAt (bigEndian values) k := by
  rw [readReplyFrame, byteAt_withCrc (by simp; omega), Nat.add_comm]
  rfl

/-- The values of a read reply are read back in wire order (R83, R139, R140). -/
theorem decodeValues_readReplyFrame (slave count : Byte) (values : List HalfWord) :
    decodeValues values.length (readReplyFrame slave count values) = values := by
  apply List.ext_getElem
  · simp [decodeValues]
  · intro i _ hi
    obtain ⟨hhi, hlo⟩ := bigEndian_getElem? values i
    have h0 : byteAt (readReplyFrame slave count values) (3 + 2 * i) = hi8 values[i] := by
      rw [byteAt_readReplyFrame _ _ (by omega)]
      rw [byteAt, List.getD_eq_getElem?_getD, hhi]
      simp [hi]
    have h1 : byteAt (readReplyFrame slave count values) (4 + 2 * i) = lo8 values[i] := by
      rw [show 4 + 2 * i = 3 + (2 * i + 1) by omega, byteAt_readReplyFrame _ _ (by omega)]
      rw [byteAt, List.getD_eq_getElem?_getD, hlo]
      simp [hi]
    simp [decodeValues, h0, h1]

/-- Settles O36: the header decides, and the values are read whatever the byte count is. -/
theorem readReplyDecodesToItsValues : Obligations.ReadReplyDecodesToItsValues := by
  intro slave from_ count start qty values hlen _ _
  have hqty : be16 (byteAt (readRequestFrame slave start qty) 4) (byteAt (readRequestFrame slave start qty) 5) = qty :=
    be16_hi8_lo8 qty
  have hvalues := decodeValues_readReplyFrame from_ count values
  have hslave : byteAt (readReplyFrame from_ count values) 0 = from_ := rfl
  have hasked : byteAt (readRequestFrame slave start qty) 0 = slave := rfl
  have hfc : byteAt (readReplyFrame from_ count values) 1 = byteAt (readRequestFrame slave start qty) 1 := rfl
  have hflag : (byteAt (readReplyFrame from_ count values) 1).getLsbD 7 = false :=
    (by decide : (0x03#8 : Byte).getLsbD 7 = false)
  rw [validate_read (by simp [hlen]) (by simp [readReplyFrame]) hflag rfl, judgeRead, hqty, ← hlen, hvalues, hslave, hasked, hfc]
  by_cases h : from_ = slave
  · rw [if_neg (by simp [h]), if_pos h]
  · rw [if_pos (.inl h), if_neg h]

/-! Replies to a write -/

/-- A value is its two bytes (R56). -/
theorem hi8_lo8_inj {v w : HalfWord} : (hi8 v = hi8 w ∧ lo8 v = lo8 w) ↔ v = w :=
  ⟨fun ⟨hh, hl⟩ => by rw [← be16_hi8_lo8 v, hh, hl, be16_hi8_lo8], fun h => h ▸ ⟨rfl, rfl⟩⟩

/-- Bytes 0 to 5 of a frame of function code `fc`: what a write echoes (R79, R80). -/
def echoBytes (fc slave : Byte) (reg x : HalfWord) : List Byte := [slave, fc, hi8 reg, lo8 reg, hi8 x, lo8 x]

/-- Two echoes are equal exactly when every field is (R135, R136). -/
theorem echoBytes_inj {fc fc' slave slave' : Byte} {reg reg' x x' : HalfWord} :
    echoBytes fc' slave' reg' x' = echoBytes fc slave reg x ↔ fc' = fc ∧ slave' = slave ∧ reg' = reg ∧ x' = x := by
  simp only [echoBytes, List.cons.injEq, and_true]
  rw [← hi8_lo8_inj (v := reg'), ← hi8_lo8_inj (v := x')]
  tauto

/-- A write's reply is judged by its echo (R135, R136). -/
theorem validate_echo {req f : List Byte} {exp : Nat} {fc fc' slave slave' : Byte} {reg reg' x x' : HalfWord}
    (hl : f.length = exp) (hc : crcOk f = true) (hreq : req.take 6 = echoBytes fc slave reg x)
    (hf : f.take 6 = echoBytes fc' slave' reg' x') (hfc : fc = 0x06#8 ∨ fc = 0x10#8) (hflag : fc'.getLsbD 7 = false) :
    validate req exp f =
      some (if fc' = fc ∧ slave' = slave ∧ reg' = reg ∧ x' = x then .ok [] else .fail .echoMismatch .none) := by
  have hbyte : ∀ g : List Byte, byteAt g 1 = byteAt (g.take 6) 1 := fun g => by simp [byteAt]
  have hreq1 : byteAt req 1 = fc := by rw [hbyte, hreq]; rfl
  have hf1 : byteAt f 1 = fc' := by rw [hbyte, hf]; rfl
  rw [validate_write hl hc (hf1 ▸ hflag) (hreq1 ▸ hfc), hreq, hf]
  simp only [echoBytes_inj]

/-- A 0x06 reply judged against a request of either write (R135). -/
theorem validate_writeSingleReply {req : List Byte} {fc slave : Byte} {reg x : HalfWord}
    (hreq : req.take 6 = echoBytes fc slave reg x) (hfc : fc = 0x06#8 ∨ fc = 0x10#8) (slave' : Byte) (reg' x' : HalfWord) :
    validate req 8 (writeSingleFrame slave' reg' x') =
      some (if 0x06#8 = fc ∧ slave' = slave ∧ reg' = reg ∧ x' = x then .ok [] else .fail .echoMismatch .none) :=
  validate_echo (writeSingleFrame_length _ _ _) (by simp [writeSingleFrame]) hreq rfl hfc (by decide)

/-- A 0x10 reply judged against a request of either write (R136). -/
theorem validate_writeMultipleReply {req : List Byte} {fc slave : Byte} {reg x : HalfWord}
    (hreq : req.take 6 = echoBytes fc slave reg x) (hfc : fc = 0x06#8 ∨ fc = 0x10#8) (slave' : Byte) (reg' x' : HalfWord) :
    validate req 8 (writeMultipleReplyFrame slave' reg' x') =
      some (if 0x10#8 = fc ∧ slave' = slave ∧ reg' = reg ∧ x' = x then .ok [] else .fail .echoMismatch .none) :=
  validate_echo (writeMultipleReplyFrame_length _ _ _) (by simp [writeMultipleReplyFrame]) hreq rfl hfc (by decide)

theorem take_writeSingleFrame (slave : Byte) (reg x : HalfWord) :
    (writeSingleFrame slave reg x).take 6 = echoBytes 0x06#8 slave reg x := rfl

theorem take_writeMultipleFrame (slave : Byte) (start : HalfWord) (values : List HalfWord) :
    (writeMultipleFrame slave start values).take 6 = echoBytes 0x10#8 slave start (BitVec.ofNat 16 values.length) := rfl

/-- Settles O37: the reply's function code and fields are compared with those of the request. -/
theorem writeEchoMustMatchExactly : Obligations.WriteEchoMustMatchExactly := by
  intro slave slave' reg reg' x x' values
  have hsingle := take_writeSingleFrame slave reg x
  have hmultiple := take_writeMultipleFrame slave reg values
  refine ⟨?_, ?_, ?_, ?_⟩
  · simpa using validate_writeSingleReply hsingle (.inl rfl) slave' reg' x'
  · simpa using validate_writeMultipleReply hsingle (.inl rfl) slave' reg' x'
  · simpa using validate_writeMultipleReply hmultiple (.inr rfl) slave' reg' x'
  · simpa using validate_writeSingleReply hmultiple (.inr rfl) slave' reg' x'

/-! Exception replies -/

/-- Settles O38: the length is judged first, then the flag; no step looks at the request. -/
theorem exceptionFrameIsJudgedByLength : Obligations.ExceptionFrameIsJudgedByLength := by
  intro req exp slave fc code pad hfc
  have hlen := exceptionFrame_length slave fc code pad
  exact ⟨fun hfull => validate_exception (hlen.trans hfull) (crcOk_withCrc _) hfc,
    fun hshort => hlen ▸ validate_short (hlen.trans_lt hshort)⟩

end Sys2Proof

/-! PROOFS. Read completion: the verdict recorded, and what each response frame does when it answers the read in progress. -/

namespace Sys2Proof

open Machine

/-! The verdict recorded -/

/-- Read completion records the validator's verdict on the request held and the bytes read (R170). -/
theorem Inv.completeRead_eq {s : State} (h : Inv s) {r : List Byte} (hl : r.length ≤ s.expLen.toNat) :
    completeRead r s = recordVerdict (validate (txFrame s) s.expLen.toNat r) (capture r s) := by
  have hr : r.length ≤ Config.rxbufSize := hl.trans h.expLenBound
  have htx := h.txLenBound
  rw [completeRead, if_neg (by omega), ← verdictOn_capture h.rxbufWf hr]

/-- A failure is raised on the capture (R170, R203). -/
theorem Inv.completeRead_fail {s : State} (h : Inv s) {r : List Byte} {st : Status} {info : Info}
    (hl : r.length ≤ s.expLen.toNat) (hv : validate (txFrame s) s.expLen.toNat r = some (.fail st info)) :
    completeRead r s = .next (raise st info (capture r s)) := by
  rw [h.completeRead_eq hl, hv, recordVerdict]

/-- OK completes the exchange on the capture (R170, R171): the request held asks for no more values than RDATA has. -/
theorem Inv.completeRead_ok {s : State} (h : Inv s) (hs : s.state = .awaiting) {r : List Byte} {vs : List HalfWord}
    (hl : r.length ≤ s.expLen.toNat) (hv : validate (txFrame s) s.expLen.toNat r = some (.ok vs)) :
    completeRead r s = .next (complete vs (capture r s)) := by
  have hreq : HoldsRequest s := (h.running (busy_iff.mpr (.inr hs))).1
  rw [h.completeRead_eq hl, hv, recordVerdict, if_neg (Nat.not_lt.mpr (hreq.ok_length_le hv))]

/-- Completion leaves the capture (R53, R171). -/
theorem Captured.complete {r : List Byte} {s t : State} (h : Captured r s t) (vs : List HalfWord) :
    Captured r s (complete vs t) := by
  simpa [Captured, rxFrame] using h

/-- Completion of a read (R171). -/
theorem complete_of_read {s : State} (hfc : s.lFc = 0x03#8) (vs : List HalfWord) :
    complete vs s = { s with state := .validated, status := .ok, rdata := memWrite s.rdata 0 vs, rdataValid := true } :=
  if_pos hfc

/-- Completion of a write (R171). -/
theorem complete_of_write {s : State} (hfc : s.lFc ≠ 0x03#8) (vs : List HalfWord) :
    complete vs s = { s with state := .validated, status := .ok } := if_neg hfc

/-- A write's verdict carries no value (R135, R136). -/
theorem HoldsRequest.ok_nil {s : State} (h : HoldsRequest s) (hfc : s.lFc ≠ 0x03#8) {r : List Byte} {exp : Nat}
    {vs : List HalfWord} (hv : validate (txFrame s) exp r = some (.ok vs)) : vs = [] := by
  obtain ⟨hcodes, -, hbyte, -⟩ := h.header
  obtain ⟨-, h⟩ | ⟨-, h | h | h | ⟨-, h⟩ | ⟨h6, h10, -⟩⟩ := validate_cases hv
  case inr.inr.inr.inr.inl => cases h; rfl
  case inr.inr.inr.inr.inr =>
    rw [hbyte] at h6 h10
    exact (hcodes.elim hfc fun h => h.elim h6 h10).elim
  all_goals cases h

/-- RDATA after a completed read: the values from entry 0 on, the other entries as before (R141, R171). -/
theorem Inv.readCell_complete {s : State} (h : Inv s) (hs : s.state = .awaiting) {r : List Byte} {vs : List HalfWord}
    (hv : validate (txFrame s) s.expLen.toNat r = some (.ok vs)) (i : Nat) :
    readCell (complete vs (capture r s)).rdata i = if i < vs.length then vs.getD i 0#16 else readCell s.rdata i := by
  have hreq : HoldsRequest s := (h.running (busy_iff.mpr (.inr hs))).1
  rw [complete_rdata, capture_lFc, capture_rdata]
  by_cases hfc : s.lFc = 0x03#8
  · have hfit : 0 + vs.length ≤ Config.maxReadQty := by simpa using hreq.ok_length_le hv
    rw [if_pos hfc, readCell_memWrite h.rdataWf hfit]
    simp [unlisted]
  · rw [if_neg hfc, hreq.ok_nil hfc hv]
    simp

/-- A failure's EXC_CODE: byte 2 of the response for EXCEPTION_RESPONSE, otherwise what it was (R34, R131, R203). -/
theorem excCode_of_validate {req r : List Byte} {exp : Nat} {st : Status} {info : Info}
    (hv : validate req exp r = some (.fail st info)) (old : Byte) :
    (if st = .exceptionResponse then info.codeOr old else old) = if st = .exceptionResponse then byteAt r 2 else old := by
  obtain ⟨-, h⟩ | ⟨-, h | h | h | ⟨-, h⟩ | ⟨-, -, h⟩⟩ := validate_cases hv <;> cases h <;> rfl

/-- Settles O34: the validator's verdict is an OK, completed, or a failure, raised. -/
theorem completionRecordsTheVerdict : Obligations.CompletionRecordsTheVerdict := by
  intro s r hinv hs hl
  obtain ⟨hreq, -, hexc, -, hvalid⟩ := hinv.running (busy_iff.mpr (.inr hs))
  have hcap : Captured r s (capture r s) := captured_capture hinv.rxbufWf (hl.trans hinv.expLenBound)
  obtain ⟨v, hv⟩ := validate_eq_some (req := txFrame s) hl
  cases v with
  | ok vs =>
    refine ⟨_, _, hinv.completeRead_ok hs hl hv, hv, hcap.complete vs, ?_, nofun⟩
    rintro _ ⟨⟩
    refine ⟨hinv.readCell_complete hs hv, fun hfc => validate_ok_length hreq hfc hv, ?_⟩
    by_cases hfc : s.lFc = 0x03#8
    · rw [complete_of_read (s := capture r s) hfc, decide_eq_true hfc]
      rfl
    · rw [complete_of_write (s := capture r s) hfc, decide_eq_false hfc, ← hvalid]
      rfl
  | fail st info =>
    refine ⟨_, _, hinv.completeRead_fail hl hv, hv, hcap, nofun, ?_⟩
    rintro _ _ ⟨⟩
    rw [← hexc, ← excCode_of_validate hv s.excCode]
    rfl

/-! The request held -/

/-- A 0x03 exchange holds its read request and expects the reply of that many values (R75, R117). -/
theorem HoldsRequest.read {s : State} (h : HoldsRequest s) (hfc : s.lFc = 0x03#8) :
    txFrame s = readRequestFrame s.lSlave s.lReg s.lQty ∧ s.expLen.toNat = 5 + 2 * s.lQty.toNat ∧
      1 ≤ s.lQty.toNat ∧ s.lQty.toNat ≤ 125 := by
  rw [HoldsRequest, encodeLatched, hfc] at h
  obtain ⟨-, hq, heq⟩ := buildRead_eq_some.mp h
  obtain ⟨hframe, hexp⟩ := Prod.mk.inj heq
  exact ⟨hframe, hexp ▸ readLength_toNat hq, readQtyOk_iff.mp hq⟩

/-- A 0x06 exchange holds its request and expects 8 bytes (R76, R117). -/
theorem HoldsRequest.writeSingle {s : State} (h : HoldsRequest s) (hfc : s.lFc = 0x06#8) :
    txFrame s = writeSingleFrame s.lSlave s.lReg s.lValue ∧ s.expLen = 8#16 := by
  rw [HoldsRequest, encodeLatched, hfc] at h
  obtain ⟨-, heq⟩ := buildWriteSingle_eq_some.mp h
  exact Prod.mk.inj heq

/-- A 0x10 exchange's request starts with the fields its reply echoes, and 8 bytes are expected (R77, R117, R136). -/
theorem HoldsRequest.writeMultiple {s : State} (h : HoldsRequest s) (hfc : s.lFc = 0x10#8) :
    (txFrame s).take 6 = echoBytes 0x10#8 s.lSlave s.lReg s.lQty ∧ s.expLen = 8#16 := by
  rw [HoldsRequest, encodeLatched, hfc] at h
  obtain ⟨-, -, heq⟩ := buildWriteMultiple_eq_some.mp h
  obtain ⟨hframe, hexp⟩ := Prod.mk.inj heq
  refine ⟨?_, hexp⟩
  rw [hframe, take_writeMultipleFrame]
  simp

/-! A frame that answers the read in progress -/

section Answer

variable {s : State} {b : List Byte}

/-- A frame of the expected length, with nothing waiting before it, is what the read completes with (R181; log 6). -/
theorem deliver_full (hs : s.state = .awaiting) (ho : s.chOpen = true) (hq : s.inputQueue = [])
    (hl : b.length = s.expLen.toNat) : deliver b s = completeRead b s := by
  have hcomplete : replyComplete (arrive b s) = true := by simp [replyComplete, hl, hq]
  rw [deliver_reads hs ho, awaitEnd, if_pos hcomplete, takeReply]
  simp only [arrive_expLen, arrive_inputQueue, hq, List.nil_append, ← hl, List.take_length, List.drop_length]
  rw [arrive, ← hq]

/-- A shorter one is what the read completes with once the timeout has passed (R181; logs 6 and 7). -/
theorem deliver_short (hs : s.state = .awaiting) (ho : s.chOpen = true) (hq : s.inputQueue = [])
    (hl : b.length < s.expLen.toNat) : deliver b s = completeRead b { s with timeoutT := 0#32 } := by
  have hshort : ¬ replyComplete (arrive b s) = true := by simp [replyComplete, hl, hq]
  rw [deliver_reads hs ho, awaitEnd, if_neg hshort, takeReply]
  simp only [arrive_expLen, arrive_inputQueue, hq, List.nil_append, List.take_of_length_le hl.le, List.drop_of_length_le hl.le]
  rw [arrive, ← hq]

/-- The capture of a frame of the expected length (R53). -/
theorem capture_full (hl : b.length = s.expLen.toNat) :
    capture b s = { s with rxbuf := memWrite s.rxbuf 0 b, rxCount := s.expLen } := by
  rw [capture, hl, BitVec.ofNat_toNat, BitVec.setWidth_eq]

/-- What a frame of the expected length leaves when the verdict is ECHO_MISMATCH: the capture, nothing else (R170, R203). -/
theorem Inv.deliver_mismatch (h : Inv s) (hs : s.state = .awaiting) (ho : s.chOpen = true) (hq : s.inputQueue = [])
    (hl : b.length = s.expLen.toNat) (hv : validate (txFrame s) s.expLen.toNat b = some (.fail .echoMismatch .none)) :
    ∃ t, deliver b s = .next t ∧ Captured b s t ∧
      t = { s with state := .failed, status := .echoMismatch, rxbuf := t.rxbuf, rxCount := s.expLen } := by
  refine ⟨_, (deliver_full hs ho hq hl).trans (h.completeRead_fail hl.le hv),
    captured_capture h.rxbufWf (hl.le.trans h.expLenBound), ?_⟩
  rw [capture_full hl]
  rfl

/-- What it leaves when the verdict on a write is OK: the capture, nothing else (R171). -/
theorem Inv.deliver_echo (h : Inv s) (hs : s.state = .awaiting) (ho : s.chOpen = true) (hq : s.inputQueue = [])
    (hfc : s.lFc ≠ 0x03#8) (hl : b.length = s.expLen.toNat) (hv : validate (txFrame s) s.expLen.toNat b = some (.ok [])) :
    ∃ t, deliver b s = .next t ∧ Captured b s t ∧
      t = { s with state := .validated, status := .ok, rxbuf := t.rxbuf, rxCount := s.expLen } := by
  refine ⟨_, (deliver_full hs ho hq hl).trans (h.completeRead_ok hs hl.le hv),
    (captured_capture h.rxbufWf (hl.le.trans h.expLenBound)).complete [], ?_⟩
  rw [complete_of_write (s := capture b s) hfc, capture_full hl]

/-- A write's reply is accepted when `same` says that the echo is the one sent, and is an ECHO_MISMATCH otherwise (R135, R136). -/
theorem Inv.deliver_writeReply (h : Inv s) (hs : s.state = .awaiting) (ho : s.chOpen = true) (hq : s.inputQueue = [])
    (hfc : s.lFc ≠ 0x03#8) (hexp : s.expLen = 8#16) (hl : b.length = 8) {same : Prop} [Decidable same]
    (hv : validate (txFrame s) 8 b = some (if same then .ok [] else .fail .echoMismatch .none)) :
    ∃ t, deliver b s = .next t ∧ Captured b s t ∧
      (same → t = { s with state := .validated, status := .ok, rxbuf := t.rxbuf, rxCount := 8#16 }) ∧
      (¬ same → t = { s with state := .failed, status := .echoMismatch, rxbuf := t.rxbuf, rxCount := 8#16 }) := by
  have hlen : s.expLen.toNat = 8 := congrArg BitVec.toNat hexp
  rw [← hlen] at hl hv
  rw [← hexp]
  by_cases hsame : same
  · rw [if_pos hsame] at hv
    obtain ⟨t, ht, hcap, hstate⟩ := h.deliver_echo hs ho hq hfc hl hv
    exact ⟨t, ht, hcap, fun _ => hstate, fun hne => absurd hsame hne⟩
  · rw [if_neg hsame] at hv
    obtain ⟨t, ht, hcap, hstate⟩ := h.deliver_mismatch hs ho hq hl hv
    exact ⟨t, ht, hcap, fun heq => absurd heq hsame, fun _ => hstate⟩

end Answer

/-- Settles O39: the reply of the request held, judged as any reply of its length is. -/
theorem readReplyCompletesTheRead : Obligations.ReadReplyCompletesTheRead := by
  intro s slave count values hinv hs ho hq hfc hlen
  obtain ⟨hframe, hexp, hmin, hmax⟩ := (hinv.running (busy_iff.mpr (.inr hs))).1.read hfc
  have hl : (readReplyFrame slave count values).length = s.expLen.toNat := by simp [hexp, hlen]
  have hv : validate (txFrame s) s.expLen.toNat (readReplyFrame slave count values) =
      some (if slave = s.lSlave then .ok values else .fail .echoMismatch .none) := by
    rw [hframe, hexp]
    exact readReplyDecodesToItsValues _ _ count _ _ values hlen hmin hmax
  rw [exec_response rfl, encode]
  by_cases hslave : slave = s.lSlave
  · rw [if_pos hslave] at hv
    refine ⟨_, (deliver_full hs ho hq hl).trans (hinv.completeRead_ok hs hl.le hv),
      (captured_capture hinv.rxbufWf (hl.le.trans hinv.expLenBound)).complete values,
      fun _ => ⟨hinv.readCell_complete hs hv, ?_⟩, fun hne => absurd hslave hne⟩
    rw [complete_of_read (s := capture _ s) hfc, capture_full hl]
  · rw [if_neg hslave] at hv
    obtain ⟨t, ht, hcap, hstate⟩ := hinv.deliver_mismatch hs ho hq hl hv
    exact ⟨t, ht, hcap, fun heq => absurd heq hslave, fun _ => hstate⟩

/-- Settles O40: the request held is the 0x06 frame of the latches. -/
theorem writeSingleReplyCompletesTheExchange : Obligations.WriteSingleReplyCompletesTheExchange := by
  intro s slave reg value hinv hs ho hq hfc
  obtain ⟨hframe, hexp⟩ := (hinv.running (busy_iff.mpr (.inr hs))).1.writeSingle hfc
  have hecho : (txFrame s).take 6 = echoBytes 0x06#8 s.lSlave s.lReg s.lValue := hframe ▸ take_writeSingleFrame _ _ _
  have hv := validate_writeSingleReply hecho (.inl rfl) slave reg value
  simp only [true_and] at hv
  exact hinv.deliver_writeReply hs ho hq (by simp [hfc]) hexp (writeSingleFrame_length _ _ _) hv

/-- Settles O41: the request held starts with the fields of the latches. -/
theorem writeMultipleReplyCompletesTheExchange : Obligations.WriteMultipleReplyCompletesTheExchange := by
  intro s slave start qty hinv hs ho hq hfc
  obtain ⟨hecho, hexp⟩ := (hinv.running (busy_iff.mpr (.inr hs))).1.writeMultiple hfc
  have hv := validate_writeMultipleReply hecho (.inr rfl) slave start qty
  simp only [true_and] at hv
  exact hinv.deliver_writeReply hs ho hq (by simp [hfc]) hexp (writeMultipleReplyFrame_length _ _ _) hv

/-- Settles O42: at the expected length the flag decides, below it the read ends short at the timeout. -/
theorem exceptionReplyCompletesTheExchange : Obligations.ExceptionReplyCompletesTheExchange := by
  intro s slave fc code pad hinv hs ho hq hfc hle
  have hlen := exceptionFrame_length slave fc code pad
  have hcap : Captured (exceptionFrame slave fc code pad) s (capture (exceptionFrame slave fc code pad) s) :=
    captured_capture hinv.rxbufWf (by have := hinv.expLenBound; omega)
  obtain ⟨hfull, hshort⟩ := exceptionFrameIsJudgedByLength (txFrame s) s.expLen.toNat slave fc code pad hfc
  rw [exec_response rfl, encode]
  obtain hl | hl := Nat.eq_or_lt_of_le hle
  · have hl' := hlen.trans hl
    refine ⟨_, (deliver_full hs ho hq hl').trans (hinv.completeRead_fail hl'.le (hfull hl)), hcap, fun _ => ?_,
      fun hlt => absurd hl hlt.ne⟩
    rw [capture_full hl']
    rfl
  · have hlt := hlen.trans_lt hl
    have hinv' : Inv { s with timeoutT := 0#32 } := hinv.of_invView_eq rfl
    exact ⟨_, (deliver_short hs ho hq hlt).trans (hinv'.completeRead_fail hlt.le (hshort hl)), hcap,
      fun heq => absurd heq hl.ne, fun _ => rfl⟩

end Sys2Proof

/-! PROOFS. The result of an exchange depends on its latches and the channel only: exchanges that agree in those answer every event
alike. One lemma for each of the engine's own steps, then one for each agent's event. -/

namespace Sys2Proof

open Machine

/-! The relation -/

/-- The exchanges of `s` and `t` are equal, and so are the results they show (R172, R183). -/
structure Alike (s t : State) : Prop where
  exchange : SameExchange s t
  result : SameResult s t

/-- Both answers go on, from `s` and from `t`, to states that are alike, with the same frames written. -/
def AnswerAlike (s t : State) (r1 r2 : Result) : Prop :=
  ∃ s' t', r1 = .next s' ∧ r2 = .next t' ∧ Alike s' t' ∧ ∃ w, s'.written = s.written ++ w ∧ t'.written = t.written ++ w

/-- Answers that write nothing. -/
theorem Alike.answer {s t s' t' : State} (h : Alike s' t') (hs : s'.written = s.written) (ht : t'.written = t.written) :
    AnswerAlike s t (.next s') (.next t') :=
  ⟨s', t', rfl, rfl, h, [], by simp [hs], by simp [ht]⟩

section Operations

variable {s t : State}

/-- The same failure (R203). -/
theorem Alike.raise (h : Alike s t) (st : Status) (info : Info) : Alike (raise st info s) (raise st info t) where
  exchange := { h.exchange with state := rfl, phase := nofun, settle := nofun, timeout := nofun }
  result := { h.result with state := rfl, status := rfl, excCode := by simp [h.result.excCode] }

/-- The same bytes captured (R53). -/
theorem Alike.capture (h : Alike s t) (r : List Byte) : Alike (capture r s) (capture r t) where
  exchange := { h.exchange with }
  result := { h.result with rxCount := rfl }

/-- A completed read leaves L_QTY values of its own in RDATA, a completed write none (R171). -/
theorem Alike.complete (h : Alike s t) (hs : Memory.wf Config.maxReadQty s.rdata = true)
    (ht : Memory.wf Config.maxReadQty t.rdata = true) {vs : List HalfWord} (hn : vs.length ≤ Config.maxReadQty)
    (hq : s.lFc = 0x03#8 → vs.length = s.lQty.toNat) : Alike (complete vs s) (complete vs t) := by
  have hfit : 0 + vs.length ≤ Config.maxReadQty := by omega
  by_cases hfc : s.lFc = 0x03#8
  · have hfc' : t.lFc = 0x03#8 := h.exchange.fc.trans hfc
    rw [complete_of_read hfc, complete_of_read hfc']
    refine ⟨{ h.exchange with state := rfl, phase := nofun, settle := nofun, timeout := nofun },
      { h.result with state := rfl, status := rfl, rdataValid := rfl, rdata := fun _ k hk => ?_ }⟩
    have hk' : 0 ≤ k ∧ k < 0 + vs.length := ⟨k.zero_le, by rw [Nat.zero_add, hq hfc]; exact hk⟩
    rw [readCell_memWrite ht hfit, readCell_memWrite hs hfit, if_pos hk', if_pos hk']
  · have hfc' : t.lFc ≠ 0x03#8 := h.exchange.fc ▸ hfc
    rw [complete_of_write hfc, complete_of_write hfc']
    exact ⟨{ h.exchange with state := rfl, phase := nofun, settle := nofun, timeout := nofun },
      { h.result with state := rfl, status := rfl }⟩

/-- A host write stores to a register no running exchange looks at (R42, R242). -/
theorem Alike.writeReg (h : Alike s t) (v : Word) (r : HostReg) : Alike (writeReg v s r) (writeReg v t r) := by
  cases r <;> exact ⟨{ h.exchange with }, { h.result with }⟩

/-- Time leaves the timers that count equal (R216). -/
theorem Alike.elapse (h : Alike s t) (n : Nat) : Alike (elapse n s) (elapse n t) where
  exchange :=
    { h.exchange with
      settle := fun hs hp => congrArg (countDown · n) (h.exchange.settle hs hp)
      timeout := fun hs => congrArg (countDown · n) (h.exchange.timeout hs) }
  result := { h.result with }

/-- After a reset the latches are equal and no result shows (R230; log 10). -/
theorem SameExchange.alike_resetEngine (e : SameExchange s t) : Alike (resetEngine s) (resetEngine t) where
  exchange := by
    constructor
    case chOpen => exact e.chOpen
    case inputQueue => exact e.inputQueue
    all_goals intros; rfl
  result := by constructor <;> intros <;> rfl

end Operations

/-! The write step -/

/-- The write step on an open channel hands the frame over once; the answer decides (R166). -/
theorem writeTurn_open {s : State} (a : ChanAnswer) (ho : s.chOpen = true) (hl : s.txLen.toNat ≤ Config.txbufSize) :
    writeTurn a s = .next (if a = .done s.txLen.toNat
      then { s with written := s.written ++ [txFrame s], sentPh := .settle, settleT := s.lSettle }
      else Machine.raise .transportError .none { s with written := s.written ++ [txFrame s] }) := by
  rw [writeTurn, if_neg (by simp [ho]), if_neg (by omega)]
  split <;> rfl

/-! A command while an exchange runs -/

/-- A command leaves a running exchange as it is: at most OVERRUN and CRC_ACC change (R105, R106, R161). -/
theorem exec_command_of_busy {s : State} (hb : busy s = true) (c : Byte) :
    ∃ ov acc, exec (decodeCommand c) s = .next { s with overrun := ov, crcAcc := acc } := by
  obtain ⟨hdrop, hreserved, -⟩ := busyEngineDropsCommands s hb
  obtain ⟨-, h⟩ | ⟨-, h⟩ | ⟨-, h⟩ | ⟨-, h⟩ | ⟨-, h⟩ | ⟨-, h⟩ | ⟨-, h⟩ := decodeCommand_cases c <;> rw [h]
  case inr.inr.inr.inl => exact ⟨_, _, exec_crcInit s⟩
  case inr.inr.inr.inr.inl => exact ⟨_, _, exec_crcByte s⟩
  case inr.inr.inr.inr.inr.inr => exact ⟨_, _, hreserved c⟩
  all_goals exact ⟨_, _, hdrop _ (by simp)⟩

/-- A channel's reply delivers its bytes, whether they decode or not: those that decode are the encoding of what they decode to. -/
theorem channelReply_eq_deliver (b : List Byte) (s : State) : channelReply b s = deliver b s := by
  unfold channelReply
  split
  · next i h =>
    obtain ⟨hformat, -, hencode⟩ := decodedFramesAreTheirEncoding .response b i nofun h
    rw [exec_response hformat, hencode]
  · rfl

/-! Two exchanges in progress -/

section Running

variable {s t : State} (e : SameExchange s t) (hs : Inv s) (ht : Inv t)

include e hs ht

/-- In progress no result shows yet (R235). -/
theorem SameExchange.alike (hb : Machine.busy s = true) : Alike s t := ⟨e, e.result hs ht hb⟩

/-- Both hold the same request and expect the same length (R110). -/
theorem SameExchange.request (hb : Machine.busy s = true) : txFrame t = txFrame s ∧ t.txLen = s.txLen ∧ t.expLen = s.expLen := by
  obtain ⟨hframe, hexp⟩ := e.frame (hs.running hb).1 (ht.running (e.busy.trans hb)).1
  refine ⟨hframe, BitVec.eq_of_toNat_eq ?_, hexp⟩
  simpa [txFrame] using congrArg List.length hframe

/-- The write step (R165, R166). -/
theorem SameExchange.writeTurn (hb : Machine.busy s = true) (a : ChanAnswer) :
    AnswerAlike s t (writeTurn a s) (writeTurn a t) := by
  obtain ⟨hframe, htx, -⟩ := e.request hs ht hb
  have halike := e.alike hs ht hb
  by_cases ho : s.chOpen = true
  · rw [writeTurn_open a ho hs.txLenBound, writeTurn_open a (e.chOpen.trans ho) ht.txLenBound]
    have hsent : t.written ++ [txFrame t] = t.written ++ [txFrame s] := by rw [hframe]
    by_cases ha : a = .done s.txLen.toNat
    · rw [if_pos ha, if_pos (htx ▸ ha)]
      exact ⟨_, _, rfl, rfl, ⟨{ e with phase := fun _ => rfl, settle := fun _ _ => e.settleTime }, { halike.result with }⟩,
        _, rfl, hsent⟩
    · have hwrote : Alike { s with written := s.written ++ [txFrame s] } { t with written := t.written ++ [txFrame t] } :=
        ⟨{ e with }, { halike.result with }⟩
      rw [if_neg ha, if_neg (htx ▸ ha)]
      exact ⟨_, _, rfl, rfl, hwrote.raise _ _, _, rfl, hsent⟩
  · have ho : s.chOpen = false := by simpa using ho
    rw [Machine.writeTurn, if_pos ho, Machine.writeTurn, if_pos (e.chOpen.trans ho)]
    exact (halike.raise _ _).answer rfl rfl

/-- The settle step (R167, R168). -/
theorem SameExchange.settleTurn (hsent : s.state = .sent) (hp : s.sentPh = .settle) :
    AnswerAlike s t (settleTurn s) (settleTurn t) := by
  have halike := e.alike hs ht (busy_iff.mpr (.inl hsent))
  rw [Machine.settleTurn, Machine.settleTurn, e.settle hsent hp]
  split
  · exact Alike.answer ⟨{ e with state := rfl, phase := nofun, settle := nofun, timeout := fun _ => e.timeoutTime },
      { halike.result with state := rfl }⟩ rfl rfl
  · exact halike.answer rfl rfl

/-- Read completion with the same bytes: the verdict is on the same request (R143, R170, R171). -/
theorem SameExchange.completeRead (ha : s.state = .awaiting) {r : List Byte} (hl : r.length ≤ s.expLen.toNat) :
    AnswerAlike s t (completeRead r s) (completeRead r t) := by
  have hb : Machine.busy s = true := busy_iff.mpr (.inr ha)
  have hreq : HoldsRequest s := (hs.running hb).1
  obtain ⟨hframe, -, hexp⟩ := e.request hs ht hb
  have hcap := (e.alike hs ht hb).capture r
  obtain ⟨v, hv⟩ := validate_eq_some (req := txFrame s) hl
  have hv' : validate (txFrame t) t.expLen.toNat r = some v := by rw [hframe, hexp, hv]
  have hl' : r.length ≤ t.expLen.toNat := hexp ▸ hl
  cases v with
  | fail st info =>
    rw [hs.completeRead_fail hl hv, ht.completeRead_fail hl' hv']
    exact (hcap.raise st info).answer rfl rfl
  | ok vs =>
    rw [hs.completeRead_ok ha hl hv, ht.completeRead_ok (e.state.trans ha) hl' hv']
    exact (hcap.complete hs.rdataWf ht.rdataWf (hreq.ok_length_le hv) fun hfc => validate_ok_length hreq hfc hv).answer
      (by simp) (by simp)

/-- The bytes the read takes are the same (R55). -/
theorem SameExchange.takeReply (ha : s.state = .awaiting) : AnswerAlike s t (takeReply s) (takeReply t) := by
  obtain ⟨-, -, hexp⟩ := e.request hs ht (busy_iff.mpr (.inr ha))
  have hbytes : t.inputQueue.take t.expLen.toNat = s.inputQueue.take s.expLen.toNat := by rw [hexp, e.inputQueue]
  have hrest : SameExchange { s with inputQueue := s.inputQueue.drop s.expLen.toNat }
      { t with inputQueue := t.inputQueue.drop t.expLen.toNat } := { e with inputQueue := by rw [hexp, e.inputQueue] }
  rw [Machine.takeReply, Machine.takeReply, hbytes]
  exact hrest.completeRead (hs.of_invView_eq rfl) (ht.of_invView_eq rfl) ha (take_expLen_length s)

/-- The read step (R169, R181). -/
theorem SameExchange.readTurn (ha : s.state = .awaiting) (a : ChanAnswer) :
    AnswerAlike s t (readTurn a s) (readTurn a t) := by
  have halike := e.alike hs ht (busy_iff.mpr (.inr ha))
  obtain ⟨-, -, hexp⟩ := e.request hs ht (busy_iff.mpr (.inr ha))
  have hcomplete : replyComplete t = replyComplete s := by rw [replyComplete, replyComplete, hexp, e.inputQueue]
  rw [Machine.readTurn, Machine.readTurn, e.chOpen, hcomplete, e.timeout ha]
  split
  · exact (halike.raise _ _).answer rfl rfl
  split
  · exact e.takeReply hs ht ha
  · exact halike.answer rfl rfl

/-- Both reads have the same time left when they end (R181). -/
theorem SameExchange.awaitEnd (ha : s.state = .awaiting) :
    ∃ tt, awaitEnd s = { s with timeoutT := tt } ∧ awaitEnd t = { t with timeoutT := tt } := by
  obtain ⟨-, -, hexp⟩ := e.request hs ht (busy_iff.mpr (.inr ha))
  have hcomplete : replyComplete t = replyComplete s := by rw [replyComplete, replyComplete, hexp, e.inputQueue]
  rw [Machine.awaitEnd, Machine.awaitEnd, hcomplete]
  split
  · exact ⟨s.timeoutT, rfl, by rw [← e.timeout ha]⟩
  · exact ⟨0#32, rfl, rfl⟩

/-- Bytes delivered (R49, R169, R181). -/
theorem SameExchange.deliver (hb : Machine.busy s = true) (b : List Byte) : AnswerAlike s t (deliver b s) (deliver b t) := by
  have harrive : SameExchange (arrive b s) (arrive b t) := { e with inputQueue := congrArg (· ++ b) e.inputQueue }
  have hs' : Inv (arrive b s) := hs.of_invView_eq rfl
  have ht' : Inv (arrive b t) := ht.of_invView_eq rfl
  have halike := harrive.alike hs' ht' hb
  by_cases ha : s.state = .awaiting
  · by_cases ho : s.chOpen = true
    · rw [deliver_reads ha ho, deliver_reads (e.state.trans ha) (e.chOpen.trans ho)]
      obtain ⟨tt, hss, htt⟩ := harrive.awaitEnd hs' ht' ha
      have hend : SameExchange { arrive b s with timeoutT := tt } { arrive b t with timeoutT := tt } :=
        { harrive with timeout := fun _ => rfl }
      rw [hss, htt]
      exact hend.takeReply (hs.of_invView_eq rfl) (ht.of_invView_eq rfl) ha
    · have ho : s.chOpen = false := by simpa using ho
      rw [deliver_closed ha ho, deliver_closed (e.state.trans ha) (e.chOpen.trans ho)]
      exact (halike.raise _ _).answer rfl rfl
  · rw [deliver_waits ha, deliver_waits (e.state ▸ ha)]
    exact halike.answer rfl rfl

/-- The engine's turn (R160). -/
theorem SameExchange.engineTurn (hb : Machine.busy s = true) (a : ChanAnswer) :
    AnswerAlike s t (engineTurn a s) (engineTurn a t) := by
  rw [Machine.engineTurn, Machine.engineTurn, e.state]
  obtain hsent | ha := busy_iff.mp hb
  · rw [e.phase hsent, hsent]
    cases hp : s.sentPh with
    | write => exact e.writeTurn hs ht hb a
    | settle => exact e.settleTurn hs ht hsent hp
  · rw [ha]
    exact e.readTurn hs ht ha a

/-- A host access (R51). -/
theorem SameExchange.hostAccess (hb : Machine.busy s = true) (access : HostAccess) :
    AnswerAlike s t (hostAccess access s) (hostAccess access t) := by
  have halike := e.alike hs ht hb
  cases access with
  | read idx => exact Alike.answer ⟨{ e with }, { halike.result with }⟩ rfl rfl
  | write idx v =>
    rw [Machine.hostAccess, Machine.hostAccess]
    split
    · obtain ⟨ov, acc, hcs⟩ := exec_command_of_busy hb (low8 v)
      obtain ⟨ov', acc', hct⟩ := exec_command_of_busy (e.busy.trans hb) (low8 v)
      rw [decodeCtrl, hcs, hct]
      exact Alike.answer ⟨{ e with }, { halike.result with }⟩ rfl rfl
    · exact (halike.writeReg v _).answer (by simp) (by simp)

/-- Any event. -/
theorem SameExchange.react (hb : Machine.busy s = true) (ev : Event) : AnswerAlike s t (react ev s) (react ev t) := by
  have halike := e.alike hs ht hb
  cases ev with
  | host access => exact e.hostAccess hs ht hb access
  | engine a => exact e.engineTurn hs ht hb a
  | reply b =>
    rw [Machine.react, Machine.react, channelReply_eq_deliver, channelReply_eq_deliver]
    exact e.deliver hs ht hb b
  | arrive b => exact Alike.answer ⟨{ e with inputQueue := congrArg (· ++ b) e.inputQueue }, { halike.result with }⟩ rfl rfl
  | drain n => exact Alike.answer ⟨{ e with inputQueue := congrArg (List.drop n) e.inputQueue }, { halike.result with }⟩ rfl rfl
  | channelOpen b => exact Alike.answer ⟨{ e with chOpen := rfl }, { halike.result with }⟩ rfl rfl
  | elapse n => exact (halike.elapse n).answer rfl rfl
  | reset => exact e.alike_resetEngine.answer rfl rfl

end Running

/-- Settles O59: the event is taken off both lists, and both answer it alike. -/
theorem resultDependsOnLatchesAndChannelOnly : Obligations.ResultDependsOnLatchesAndChannelOnly := by
  intro s1 s2 ev rest1 rest2 hinv1 hinv2 hb e h1 h2
  have he : SameExchange { s1 with events := rest1 } { s2 with events := rest2 } := { e with }
  obtain ⟨t1, t2, ht1, ht2, halike, hwritten⟩ := he.react (hinv1.of_invView_eq rfl) (hinv2.of_invView_eq rfl) hb ev
  exact ⟨t1, t2, (step_cons h1).trans ht1, (step_cons h2).trans ht2, halike.exchange, halike.result, hwritten⟩

end Sys2Proof

/-! PROOFS. The exchange controller: the transitions of STATE, how a command with BUSY = 0 ends at once, the engine's three steps one
by one, and what the bytes of a reply do. -/

namespace Sys2Proof

open Machine

/-! The transitions of STATE -/

/-- A STATE may stay as it is (R160). -/
theorem transition_refl (x : ExchangeState) : Transition x x := by
  cases x <;> exact .inl rfl

/-- A failure may end a command or an exchange in every STATE (R160). -/
theorem transition_failed (x : ExchangeState) : Transition x .failed := by
  cases x <;> simp [Transition]

/-- With BUSY = 0 an exchange may be accepted, and CLEAR may return to IDLE (R160). -/
theorem transition_of_not_busy {s : State} (hb : busy s = false) : Transition s.state .sent ∧ Transition s.state .idle := by
  obtain h | h | h := not_busy_iff.mp hb <;> simp [h, Transition]

/-- Every move but reset's takes STATE along a transition of R160. -/
theorem Machine.Move.transition {e : Option Event} {s t : State} (m : Move e s t) (he : e ≠ some .reset) :
    Transition s.state t.state := by
  cases m
  case reset hreset => exact absurd hreset he
  case accept hb _ => exact (transition_of_not_busy hb).1
  case clear hb => exact (transition_of_not_busy hb).2
  case issueRead hs _ _ => rw [hs]; exact .inr (.inl rfl)
  case validated hs _ _ _ _ => rw [hs, complete_state]; exact .inr (.inl rfl)
  case reject | reserved | closed | writeFailed | readError | failed => exact transition_failed _
  case hostWrite => rw [writeReg_state]; exact transition_refl _
  -- The other moves leave STATE alone.
  all_goals exact transition_refl _

/-- Settles O55. -/
theorem stateMovesOnlyAlongTheTable : Obligations.StateMovesOnlyAlongTheTable :=
  fun _ _ hstep hreset => (step_move hstep).transition hreset

/-! Commands with BUSY = 0 -/

/-- An exchange command with BUSY = 0 whose parameters the encoder rejects (R161, R164). -/
theorem exchangeCommand_rejects {s : State} {fc : Byte} (hb : busy s = false) (hfc : fc = 0x03#8 ∨ fc = 0x06#8 ∨ fc = 0x10#8)
    (hv : ¬ ValidParameters fc s.pSlave s.pQty) : exchangeCommand fc s = rejectRequest (latched fc s) := by
  have hnone : encodeLatched (latched fc s) = none := (encodeRequest_eq_none hfc).mpr hv
  rw [exchangeCommand, if_neg (by simp [hb]), acceptExchange, hnone]

/-- L_WDATA after any acceptance: it changes only for a 0x10 command of a quantity in range (R73, R162). -/
theorem readCell_lWdata_latch_ite {s : State} (hwf : Memory.wf Config.maxWriteQty s.lWdata = true) (fc : Byte) (k : Nat) :
    readCell (latch fc s).lWdata k =
      if fc = 0x10#8 ∧ 1 ≤ s.pQty.toNat ∧ s.pQty.toNat ≤ 123 ∧ k < s.pQty.toNat then readCell s.wdata k
      else readCell s.lWdata k := by
  by_cases h : fc = 0x10#8 ∧ writeQtyOk s.pQty.toNat = true
  · obtain ⟨rfl, hq⟩ := h
    obtain ⟨hmin, hmax⟩ := writeQtyOk_iff.mp hq
    rw [readCell_lWdata_latch hq hwf]
    simp only [hmin, hmax, true_and]
  · rw [latch_lWdata, if_neg h, if_neg]
    rintro ⟨hfc, hmin, hmax, -⟩
    exact h ⟨hfc, writeQtyOk_iff.mpr ⟨hmin, hmax⟩⟩

/-- Settles O25: each of the four is the exchange command of its function code, READ_REGISTER with P_QTY = 1 stored first. -/
theorem invalidParametersEndTheCommand : Obligations.InvalidParametersEndTheCommand := by
  intro s i fc q hi hb hv hwf
  obtain ⟨hfc, hexec⟩ : (fc = 0x03#8 ∨ fc = 0x06#8 ∨ fc = 0x10#8) ∧
      exec i s = .next (exchangeCommand fc { s with pQty := q }) := by
    simp only [List.mem_cons, Prod.mk.injEq, List.not_mem_nil, or_false] at hi
    obtain ⟨rfl, rfl, rfl⟩ | ⟨rfl, rfl, rfl⟩ | ⟨rfl, rfl, rfl⟩ | ⟨rfl, rfl, rfl⟩ := hi
    · exact ⟨.inl rfl, rfl⟩
    · exact ⟨.inl rfl, rfl⟩
    · exact ⟨.inr (.inl rfl), rfl⟩
    · exact ⟨.inr (.inr rfl), rfl⟩
  have hreject := exchangeCommand_rejects (s := { s with pQty := q }) hb hfc hv
  exact ⟨_, hexec.trans (congrArg Host.Outcome.next hreject), readCell_lWdata_latch_ite (s := { s with pQty := q }) hwf fc, rfl⟩

/-- Settles O27. -/
theorem clearReturnsToIdle : Obligations.ClearReturnsToIdle := by
  refine ⟨rfl, fun s => ⟨fun hb => congrArg Host.Outcome.next (if_neg (by simp [hb])), fun hb => ?_⟩⟩
  obtain ⟨hdrop, -, -⟩ := busyEngineDropsCommands s hb
  exact hdrop .clear (by simp)

/-- Settles O28: with BUSY = 0 the command is the rejection of R164 after the clearing of R163. -/
theorem reservedCodeEndsInvalid : Obligations.ReservedCodeEndsInvalid := by
  refine ⟨fun c hc => decodeCommand_eq_reservedCmd.mpr ⟨rfl, hc⟩, fun s c =>
    ⟨fun hb => congrArg Host.Outcome.next (if_neg (by simp [hb])), fun hb => ?_⟩⟩
  obtain ⟨-, hreserved, -⟩ := busyEngineDropsCommands s hb
  exact hreserved c

/-! The engine's own steps -/

/-- The engine's turn in the write phase is the write step (R165, R166). -/
theorem step_writeTurn {s : State} {a : ChanAnswer} {rest : List Event} (hs : s.state = .sent) (hp : s.sentPh = .write)
    (h : s.events = .engine a :: rest) : step s = writeTurn a { s with events := rest } := by
  rw [step_cons h]
  simp [react, engineTurn, hs, hp]

/-- The engine's turn does nothing while the settle delay runs (R167). -/
theorem step_settleWaits {s : State} {a : ChanAnswer} {rest : List Event} (hs : s.state = .sent) (hp : s.sentPh = .settle)
    (ht : s.settleT ≠ 0#32) (h : s.events = .engine a :: rest) : step s = .next { s with events := rest } := by
  rw [step_cons h]
  simp [react, engineTurn, settleTurn, hs, hp, ht]

/-- Settles O30. -/
theorem writeStepSendsTheWholeFrame : Obligations.WriteStepSendsTheWholeFrame := by
  intro s a rest hs hp h
  rw [step_writeTurn hs hp h]
  refine ⟨fun ho => if_pos ho, fun ho hl ha => ?_, fun ho hl ha => ?_⟩
  · rw [writeTurn_open (s := { s with events := rest }) a ho hl, if_pos ha]
    rfl
  · rw [writeTurn_open (s := { s with events := rest }) a ho hl, if_neg ha]
    rfl

/-- Settles O31. -/
theorem settleDelayPrecedesTheRead : Obligations.SettleDelayPrecedesTheRead :=
  fun _ _ hs hp => ⟨fun _ h ht => step_settleWaits hs hp ht h, fun _ h h0 => step_issueRead hs hp h0 h,
    fun _ h => ⟨_, step_elapse h, countDown_toNat _ _, countDown_toNat _ _, rfl⟩⟩

/-- Settles O32: the read step looks at the answer and at CH_OPEN first. -/
theorem failedReadIsTransportError : Obligations.FailedReadIsTransportError :=
  fun _ _ _ hs hfail h => (step_readTurn hs h).trans (if_pos hfail)

/-! Bytes that answer a read -/

/-- A reply's bytes are delivered, a response frame or not (R169). -/
theorem step_reply {s : State} {bytes : List Byte} {rest : List Event} (h : s.events = .reply bytes :: rest) :
    step s = deliver bytes { s with events := rest } := by
  rw [step_cons h, react, channelReply_eq_deliver]

section Delivered

variable {s : State} {b : List Byte}

/-- With EXP_LEN bytes there the read completes with the first of them, later ones stay in the queue (R55, R181, R238). -/
theorem deliver_enough (hs : s.state = .awaiting) (ho : s.chOpen = true) (hl : s.expLen.toNat ≤ (s.inputQueue ++ b).length) :
    deliver b s = completeRead ((s.inputQueue ++ b).take s.expLen.toNat)
      { s with inputQueue := (s.inputQueue ++ b).drop s.expLen.toNat } := by
  have hcomplete : replyComplete (arrive b s) = true := decide_eq_true hl
  rw [deliver_reads hs ho, awaitEnd, if_pos hcomplete]
  rfl

/-- With fewer it completes with all of them once the timeout has passed (R181; log 7). -/
theorem deliver_tooFew (hs : s.state = .awaiting) (ho : s.chOpen = true) (hl : (s.inputQueue ++ b).length < s.expLen.toNat) :
    deliver b s = completeRead (s.inputQueue ++ b) { s with inputQueue := [], timeoutT := 0#32 } := by
  have hshort : ¬ replyComplete (arrive b s) = true := by simpa [replyComplete] using hl
  rw [deliver_reads hs ho, awaitEnd, if_neg hshort, takeReply]
  simp only [arrive_expLen, arrive_inputQueue, List.take_of_length_le hl.le, List.drop_of_length_le hl.le]
  rfl

end Delivered

/-- Settles O6: a response frame's instruction is the delivery of its bytes, and so is any other reply. -/
theorem stepRunsTheResponseDelivered : Obligations.StepRunsTheResponseDelivered := by
  refine ⟨fun s i rest hformat _ h => ?_, fun s bytes rest h => ?_⟩
  · rw [step_reply h, exec_response hformat]
  · rw [step_reply h]
    exact ⟨rfl, fun hs => deliver_waits hs, fun hs ho => deliver_closed hs ho, fun hs ho hl => deliver_enough hs ho hl,
      fun hs ho hl => deliver_tooFew hs ho hl⟩

end Sys2Proof

/-! PROOFS. No run stops. From a state of the invariant every event is answered with a next state: one lemma for each of the engine's
own steps, then one for each agent's event, then the induction over the run. -/

namespace Sys2Proof

open Machine

/-! The engine's turn -/

/-- With no exchange in progress the engine takes no step (R220). -/
theorem engineTurn_of_not_busy {s : State} (hb : busy s = false) (a : ChanAnswer) : engineTurn a s = .next s := by
  obtain hs | hs | hs := not_busy_iff.mp hb <;> simp [engineTurn, hs]

/-- Settles O8. -/
theorem quiescentEngineKeepsItsState : Obligations.QuiescentEngineKeepsItsState :=
  ⟨fun s a rest hb h => (step_cons h).trans (engineTurn_of_not_busy (s := { s with events := rest }) hb a), fun _ h => step_nil h⟩

/-- The write step goes on: TX_LEN is within TXBUF (R43, R165, R166). -/
theorem Inv.writeTurn_next {s : State} (h : Inv s) (a : ChanAnswer) : ∃ t, writeTurn a s = .next t := by
  cases ho : s.chOpen with
  | false => exact ⟨_, if_pos ho⟩
  | true => exact ⟨_, writeTurn_open a ho h.txLenBound⟩

/-- The settle step goes on, in every state (R167, R168). -/
theorem settleTurn_next (s : State) : ∃ t, settleTurn s = .next t := by
  by_cases h0 : s.settleT = 0#32
  · exact ⟨_, if_pos h0⟩
  · exact ⟨_, if_neg h0⟩

/-- What a read takes off the queue completes it (R142, R181). -/
theorem Inv.takeReply_next {s : State} (h : Inv s) (hs : s.state = .awaiting) : ∃ t, takeReply s = .next t := by
  obtain ⟨t, ht, -⟩ := h.takeReply_ends hs
  exact ⟨t, ht⟩

/-- The read step goes on: it fails, completes or waits (R169, R181). -/
theorem Inv.readTurn_next {s : State} (h : Inv s) (hs : s.state = .awaiting) (a : ChanAnswer) : ∃ t, readTurn a s = .next t := by
  unfold readTurn
  split
  · exact ⟨_, rfl⟩
  split
  · exact h.takeReply_next hs
  · exact ⟨_, rfl⟩

/-- The engine's turn goes on (R160). -/
theorem Inv.engineTurn_next {s : State} (h : Inv s) (a : ChanAnswer) : ∃ t, engineTurn a s = .next t := by
  unfold engineTurn
  split
  case h_2 => exact h.writeTurn_next a
  case h_3 => exact settleTurn_next s
  case h_4 hs => exact h.readTurn_next hs a
  -- IDLE, VALIDATED and FAILED are quiescent.
  all_goals exact ⟨_, rfl⟩

/-! The agents' events -/

/-- Waiting for a read's end moves TIMEOUT_T only (R181). -/
theorem awaitEnd_eq (s : State) : ∃ tt, awaitEnd s = { s with timeoutT := tt } := by
  unfold awaitEnd
  split <;> exact ⟨_, rfl⟩

/-- Bytes delivered wait, find a closed channel, or end the read in progress (R49, R169, R181). -/
theorem Inv.deliver_next {s : State} (h : Inv s) (b : List Byte) : ∃ t, deliver b s = .next t := by
  by_cases hs : s.state = .awaiting
  · cases ho : s.chOpen with
    | false => exact ⟨_, deliver_closed hs ho⟩
    | true =>
      obtain ⟨tt, htt⟩ := awaitEnd_eq (arrive b s)
      rw [deliver_reads hs ho, htt]
      exact (h.of_invView_eq rfl : Inv { arrive b s with timeoutT := tt }).takeReply_next hs
  · exact ⟨_, deliver_waits hs⟩

/-- An instruction that is no response frame goes on, in every state (R161, R164, R179). -/
theorem exec_next_of_not_response {i : Instr} (hi : formatOf i ≠ .response) (s : State) : ∃ t, exec i s = .next t := by
  cases i
  case rtuRspReadHolding | rtuRspWriteSingle | rtuRspWriteMultiple | rtuRspException => exact absurd rfl hi
  all_goals exact ⟨_, rfl⟩

/-- Every instruction goes on from a state of the invariant (R200, R215). -/
theorem Inv.exec_next {s : State} (h : Inv s) (i : Instr) : ∃ t, exec i s = .next t := by
  by_cases hi : formatOf i = .response
  · rw [exec_response hi]
    exact h.deliver_next _
  · exact exec_next_of_not_response hi s

/-- A host access goes on (R51). -/
theorem Inv.hostAccess_next {s : State} (h : Inv s) (access : HostAccess) : ∃ t, hostAccess access s = .next t := by
  cases access with
  | read idx => exact ⟨_, rfl⟩
  | write idx v =>
    rw [hostAccess]
    split
    · exact h.exec_next (decodeCtrl v)
    · exact ⟨_, rfl⟩

/-- Any event goes on. -/
theorem Inv.react_next {s : State} (h : Inv s) (e : Event) : ∃ t, react e s = .next t := by
  cases e with
  | host access => exact h.hostAccess_next access
  | engine a => exact h.engineTurn_next a
  | reply b =>
    rw [react, channelReply_eq_deliver]
    exact h.deliver_next b
  | arrive | drain | channelOpen | elapse | reset => exact ⟨_, rfl⟩

/-! The run -/

/-- From a state of the invariant the machine takes a step (R200, R215). -/
theorem Inv.step_next {s : State} (h : Inv s) : ∃ t, step s = .next t := by
  cases he : s.events with
  | nil => exact ⟨s, step_nil he⟩
  | cons e rest =>
    rw [step_cons he]
    exact (h.of_invView_eq rfl : Inv { s with events := rest }).react_next e

/-- Settles O52, by induction on the run's length: the machine takes a step, and the step keeps the invariant. -/
theorem invariantStatesNeverStop : Obligations.InvariantStatesNeverStop := by
  intro n
  induction n with
  | zero => exact fun s h => ⟨s, rfl, h⟩
  | succ n ih =>
    intro s h
    obtain ⟨t, hstep⟩ := h.step_next
    obtain ⟨u, hrun, hu⟩ := ih t (stepKeepsTheInvariant s t h hstep)
    exact ⟨u, (run_succ_next hstep).trans hrun, hu⟩

end Sys2Proof

/-! PROOFS. A table word in front of the events: what the decoder reads from it is what the event it stands for runs, a command for a
word no longer than CTRL and a response frame for a longer one. -/

namespace Sys2Proof

open Machine

/-- The four bytes of a number decode as its write to CTRL (R70). -/
theorem decode_ctrl_bytesOfNat (x : Nat) : decode .ctrl (bytesOfNat 4 x) = .ok (decodeCtrl (BitVec.ofNat 32 x)) :=
  congrArg (fun v => Except.ok (decodeCtrl v)) (append_bytesOfNat x)

/-- A table word no longer than CTRL always decodes: as the command of its value. -/
theorem decodeTableWord_ctrl {nbits : Nat} (hlen : nbits ≤ ctrlBits) (w : Nat) :
    decodeTableWord nbits w = some (decodeCtrl (BitVec.ofNat 32 (w % 2 ^ nbits))) := by
  rw [decodeTableWord, if_pos hlen, decode_ctrl_bytesOfNat, Except.toOption]

/-- A longer table word that decodes is a response frame. -/
theorem decode_response_of_decodeTableWord {nbits w : Nat} {i : Instr} (hlen : ¬ nbits ≤ ctrlBits)
    (h : decodeTableWord nbits w = some i) : decode .response (bytesOfNat (nbits / 8) w) = .ok i := by
  rw [decodeTableWord, if_neg hlen] at h
  cases hd : decode .response (bytesOfNat (nbits / 8) w) with
  | error e => rw [hd] at h; cases h
  | ok j => rw [hd] at h; cases h; rfl

/-- A reply that is a response frame runs as its instruction. -/
theorem channelReply_of_decode {bytes : List Byte} {i : Instr} (h : decode .response bytes = .ok i) (s : State) :
    channelReply bytes s = exec i s := by
  rw [channelReply, h]

/-- Settles O7: a word no longer than CTRL is a host write to CTRL, a longer one the channel's reply. -/
theorem stepRunsTheTableWord : Obligations.StepRunsTheTableWord := by
  intro s nbits w i h
  by_cases hlen : nbits ≤ ctrlBits
  · have hevents : (s.withFetchWord nbits w).events = .host (.write 0#10 (BitVec.ofNat 32 (w % 2 ^ nbits))) :: s.events := by
      rw [State.withFetchWord, fetchEvent, if_pos hlen]
    obtain rfl : decodeCtrl (BitVec.ofNat 32 (w % 2 ^ nbits)) = i := Option.some.inj ((decodeTableWord_ctrl hlen w).symm.trans h)
    exact step_ctrlWrite hevents
  · have hevents : (s.withFetchWord nbits w).events = .reply (bytesOfNat (nbits / 8) w) :: s.events := by
      rw [State.withFetchWord, fetchEvent, if_neg hlen]
    exact (step_cons hevents).trans (channelReply_of_decode (decode_response_of_decodeTableWord hlen h) s)

end Sys2Proof
